-- ==== Sys2Proof/Word.lean ====
section
/-! DEFINITION. The words of the FGM-316: the bit vectors the manual numbers bit by bit. -/

namespace Sys2Proof

/-- One byte of a maintenance frame, a trace-link frame or an image (R185). -/
abbrev Byte := BitVec 8

/-- A 36-bit byte address, 0h to F_FFFF_FFFFh (Table 1-1). -/
abbrev Address := BitVec 36

/-- The number of an aligned 64-byte block, 0 to 2^30 - 1. -/
abbrev Granule := BitVec 30

/-- The 32-bit wrapping number of a transaction (R6). -/
abbrev Ordinal := BitVec 32

/-- The 16-bit wrapping number of a stored trace record (R113). -/
abbrev SeqNo := BitVec 16

/-- The number of an initiator, 0 to 7 (R1). -/
abbrev Initiator := BitVec 3

/-- A set of initiator tags: bit n stands for tag n (R185). -/
abbrev InitiatorSet := BitVec 8

/-- A trace class, 0 to 3 (Table 2-1). -/
abbrev TraceClass := BitVec 2

/-- A set of trace classes: bit n stands for class n (R185). -/
abbrev ClassSet := BitVec 4

/-- A set of comparators, or a match set: bit n stands for Cn (R185). -/
abbrev ComparatorSet := BitVec 4

/-- A set of flags: bit n stands for flag n; bits 0 and 13 to 15 stand for no flag (R185). -/
abbrev FlagSet := BitVec 16

/-- The tag of a maintenance frame, 0 to 15 (R164). -/
abbrev Tag := BitVec 4

/-- One beat of bus data; a beat of fewer than 8 bytes uses the low-order bytes. -/
abbrev Beat := BitVec 64

end Sys2Proof
end

