-- ==== Sys2Proof/Config.lean ====
section
/-! DEFINITION. What the manual leaves open: the one free value of the model. -/

namespace Sys2Proof

/-- How many further bytes of a frame in transmission the trace link has sent since the model last looked.
The manual gives the link no byte rate, so the position it has reached in a frame (R134, R144) is a free
value. `n` counts the draws. DESIGN CHOICE, safe: log entry 6. -/
opaque Config.bytesSent : Nat → Nat

end Sys2Proof
end

