-- ==== Sys2Proof/Syntax.lean ====
section
/-! DEFINITION. The commands of the FGM-316: one constructor of `Instr` for each row of the table of operations
and events, with the operands the row's rule gives it. -/

namespace Sys2Proof

/-- The direction of a transaction (Table 1-1). -/
inductive Direction where
  | read
  | write
  deriving DecidableEq, Repr

/-- The kind of a transaction (Table 1-1). -/
inductive Kind where
  | data
  | fetch
  deriving DecidableEq, Repr

/-- The privilege of a transaction (Table 1-1). -/
inductive Privilege where
  | user
  | supervisor
  deriving DecidableEq, Repr

/-- The seven sizes of a transaction: a single beat of 1, 2, 4 or 8 bytes, or a burst of 2, 4 or 8 beats of
8 bytes (Table 1-1). -/
inductive Size where
  | b1
  | b2
  | b4
  | b8
  | burst2
  | burst4
  | burst8
  deriving DecidableEq, Repr

/-- The status of a bus response (R2). -/
inductive BusStatus where
  | okay
  | error
  deriving DecidableEq, Repr

/-- The level of a pin. -/
inductive Level where
  | low
  | high
  deriving DecidableEq, Repr

/-- A request at the upstream port: the fields of Table 1-1. -/
structure Request where
  address : Address
  size : Size
  direction : Direction
  kind : Kind
  privilege : Privilege
  initiator : Initiator
  lock : Bool
  /-- One value per beat for a WRITE, none for a READ. -/
  data : List Beat
  deriving DecidableEq, Repr

/-- The last two bytes of a region-entry image, at the widths of Table 11-3. -/
structure AttributeArgs where
  userRights : BitVec 2
  supervisorRights : BitVec 2
  userFetch : BitVec 2
  supervisorFetch : BitVec 2
  denyAction : BitVec 2
  log : Bool
  traceClass : BitVec 3
  deriving DecidableEq, Repr

/-- A region-entry image as carried, at the widths of Table 11-3. -/
structure RegionArgs where
  priority : BitVec 8
  base : BitVec 32
  limit : BitVec 32
  initiators : InitiatorSet
  attributes : AttributeArgs
  deriving DecidableEq, Repr

/-- A comparator image as carried, at the widths of Table 11-4. -/
structure ComparatorArgs where
  use : BitVec 8
  windowEnable : Bool
  dataInvert : Bool
  dataEnable : Bool
  direction : BitVec 2
  kind : BitVec 2
  privilege : BitVec 2
  verdict : BitVec 2
  initiators : InitiatorSet
  classes : ClassSet
  windowLow : BitVec 40
  windowHigh : BitVec 40
  dataValue : BitVec 64
  dataMask : BitVec 64
  deriving DecidableEq, Repr

/-- A step image as carried, at the widths of Table 11-5; `condition` is also where step number 4 carries the
restart set. -/
structure StepArgs where
  defined : BitVec 8
  combine : BitVec 2
  condition : ComparatorSet
  count : BitVec 16
  last : BitVec 2
  actions : BitVec 4
  deriving DecidableEq, Repr

/-- The arguments of SET_CAPTURE, at the widths of Table 11-6. -/
structure CaptureArgs where
  mode : BitVec 8
  filter : ComparatorSet
  readData : BitVec 8
  writeData : BitVec 8
  policy : BitVec 8
  limit : BitVec 16
  deriving DecidableEq, Repr

/-- The commands of the maintenance port (Table 10-1). -/
inductive Code where
  | null
  | stageRegion
  | commitRegion
  | retireRegion
  | readRegion
  | setDefault
  | setMode
  | readGuard
  | queryPending
  | abortPending
  | readViolation
  | ackViolation
  | loadComparator
  | readComparator
  | loadStep
  | arm
  | disarm
  | readSequencer
  | setCapture
  | readCapture
  | flushTrace
  | readTrace
  | linkEnable
  | linkDisable
  | readFlags
  | clearFlags
  | setAlertEnable
  | maintReset
  deriving DecidableEq, Repr

/-- The commands: what happens at the part's ports, and what the part takes as one step of its own. A maintenance
command is a well-formed frame taken at the rise of MCS (R164): its tag and its argument fields. -/
inductive Instr where
  /-- The bus presents a request at the upstream port (R7). -/
  | presentedRequest (request : Request)
  /-- The tracker accepts the presented request (R8). -/
  | acceptance
  /-- Memory answers: a status and, for a READ answered OKAY, one value per beat (R10). -/
  | downstreamResponse (status : BusStatus) (data : List Beat)
  /-- The head of the in-flight list completes (R18). -/
  | completion
  /-- The stall timer reaches the stall limit (R123). -/
  | stallLimitRunsOut
  /-- BRST is asserted (R20). -/
  | busReset
  /-- NRST low or power applied, and GSTRAP at the level given as the reset ends (R21, R42). -/
  | powerOnReset (gstrap : Level)
  /-- A pulse on CREDIT (R135). -/
  | creditPulse
  /-- The last check byte of a trace-link frame is sent (R140). -/
  | frameEnd
  /-- A maintenance frame that fails a check of R165: its bits, in the order MDI was sampled. -/
  | badFrame (bits : List Bool)
  | null (tag : Tag)
  | stageRegion (tag : Tag) (image : RegionArgs)
  | commitRegion (tag : Tag) (slot : BitVec 8)
  | retireRegion (tag : Tag) (slot : BitVec 8)
  | readRegion (tag : Tag) (selector : BitVec 8)
  | setDefault (tag : Tag) (attributes : AttributeArgs) (fill : BitVec 32)
  | setMode (tag : Tag) (mode : BitVec 8) (escalate : BitVec 8)
  | readGuard (tag : Tag)
  | queryPending (tag : Tag)
  | abortPending (tag : Tag)
  | readViolation (tag : Tag) (position : BitVec 8)
  | ackViolation (tag : Tag) (count : BitVec 8)
  | loadComparator (tag : Tag) (number : BitVec 8) (image : ComparatorArgs)
  | readComparator (tag : Tag) (number : BitVec 8)
  | loadStep (tag : Tag) (number : BitVec 8) (image : StepArgs)
  | arm (tag : Tag)
  | disarm (tag : Tag)
  | readSequencer (tag : Tag)
  | setCapture (tag : Tag) (settings : CaptureArgs)
  | readCapture (tag : Tag)
  | flushTrace (tag : Tag)
  | readTrace (tag : Tag)
  | linkEnable (tag : Tag)
  | linkDisable (tag : Tag)
  | readFlags (tag : Tag)
  | clearFlags (tag : Tag) (flags : FlagSet)
  | setAlertEnable (tag : Tag) (flags : FlagSet)
  | maintReset (tag : Tag)
  /-- BRST is released (R20). -/
  | brstRelease
  deriving DecidableEq, Repr

end Sys2Proof
end

