-- ==== Sys2Proof/Decode.lean ====
section
/-! DEFINITION. The frames of the maintenance port: byte order, the CRC-8, the checks on a received frame, the
command a frame spells, and the frame of a command. The opcode table gives its rows no bits, so
`decodeTableWord` spells no command. -/

namespace Sys2Proof

/-! ## Bytes and bits (R163, R185) -/

/-- The low `n` bytes of a number, most significant byte first (R185). -/
def bytesBE : Nat → Nat → List Byte
  | 0, _ => []
  | n + 1, v => BitVec.ofNat 8 (v / 256 ^ n) :: bytesBE n v

/-- The number a string of bytes spells, most significant byte first (R185). -/
def natBE (bytes : List Byte) : Nat :=
  bytes.foldl (fun n b => 256 * n + b.toNat) 0

/-- The byte that eight bits spell, most significant bit first (R163). -/
def byteOfBits (bits : List Bool) : Byte :=
  BitVec.ofNat 8 (bits.foldl (fun n b => 2 * n + b.toNat) 0)

/-- The bits of a byte, most significant bit first (R163). -/
def bitsOfByte (b : Byte) : List Bool :=
  [b.getLsbD 7, b.getLsbD 6, b.getLsbD 5, b.getLsbD 4, b.getLsbD 3, b.getLsbD 2, b.getLsbD 1, b.getLsbD 0]

/-- The bits of a string of bytes, in the order they travel (R163). -/
def bitsOfBytes (bytes : List Byte) : List Bool :=
  bytes.flatMap bitsOfByte

/-- The whole bytes of a string of bits: each group of eight completes one byte (R163). -/
def wholeBytes : List Bool → List Byte
  | b7 :: b6 :: b5 :: b4 :: b3 :: b2 :: b1 :: b0 :: rest =>
    byteOfBits [b7, b6, b5, b4, b3, b2, b1, b0] :: wholeBytes rest
  | _ => []

/-! ## The frame check (R165) -/

/-- One shift of the CRC-8 register: generator polynomial x^8 + x^2 + x + 1. -/
def crc8Shift (c : Byte) : Byte :=
  if c.msb then (c <<< 1) ^^^ 0x07#8 else c <<< 1

/-- The CRC-8 register after one byte, taken most significant bit first. -/
def crc8Byte (c b : Byte) : Byte :=
  Nat.repeat crc8Shift 8 (c ^^^ b)

/-- The CRC-8 of a string of bytes, from a register of 00h (R165). -/
def crc8 (bytes : List Byte) : Byte :=
  bytes.foldl crc8Byte 0#8

/-! ## Command codes (Table 10-1) -/

/-- The code of a command. -/
def Code.byte : Code → Byte
  | .null => 0x00#8
  | .stageRegion => 0x11#8
  | .commitRegion => 0x12#8
  | .retireRegion => 0x13#8
  | .readRegion => 0x14#8
  | .setDefault => 0x15#8
  | .setMode => 0x21#8
  | .readGuard => 0x22#8
  | .queryPending => 0x23#8
  | .abortPending => 0x24#8
  | .readViolation => 0x31#8
  | .ackViolation => 0x32#8
  | .loadComparator => 0x41#8
  | .readComparator => 0x42#8
  | .loadStep => 0x51#8
  | .arm => 0x52#8
  | .disarm => 0x53#8
  | .readSequencer => 0x54#8
  | .setCapture => 0x61#8
  | .readCapture => 0x62#8
  | .flushTrace => 0x63#8
  | .readTrace => 0x64#8
  | .linkEnable => 0x71#8
  | .linkDisable => 0x72#8
  | .readFlags => 0x81#8
  | .clearFlags => 0x82#8
  | .setAlertEnable => 0x83#8
  | .maintReset => 0xF0#8

/-- The frame length of a command, in bytes. -/
def Code.frameLength : Code → Nat
  | .stageRegion => 15
  | .commitRegion | .retireRegion | .readRegion | .readViolation | .ackViolation | .readComparator => 4
  | .setDefault | .loadStep => 9
  | .setMode | .clearFlags | .setAlertEnable => 5
  | .loadComparator => 36
  | .setCapture => 10
  | .null | .readGuard | .queryPending | .abortPending | .arm | .disarm | .readSequencer | .readCapture
  | .flushTrace | .readTrace | .linkEnable | .linkDisable | .readFlags | .maintReset => 3

/-- Every command of Table 10-1, in its order. -/
def allCodes : List Code :=
  [.null, .stageRegion, .commitRegion, .retireRegion, .readRegion, .setDefault, .setMode, .readGuard,
   .queryPending, .abortPending, .readViolation, .ackViolation, .loadComparator, .readComparator, .loadStep,
   .arm, .disarm, .readSequencer, .setCapture, .readCapture, .flushTrace, .readTrace, .linkEnable,
   .linkDisable, .readFlags, .clearFlags, .setAlertEnable, .maintReset]

/-- The command whose code a byte is, if it is a code of Table 10-1. -/
def codeOfByte (b : Byte) : Option Code :=
  allCodes.find? (fun c => c.byte == b)

/-! ## The checks on a received frame (R165) -/

/-- The sub-reasons of BAD_FRAME. -/
inductive SubReason where
  | length
  | code
  | check
  deriving DecidableEq, Repr

/-- The first check of R165 that a received frame fails; none for a well-formed frame. -/
def frameFailure (bits : List Bool) : Option SubReason :=
  let bytes := wholeBytes bits
  match bytes with
  | [] => some .length
  | first :: _ =>
    match codeOfByte first with
    | none => some .code
    | some code =>
      if bits.length ≠ 8 * code.frameLength then some .length
      else if bytes.getLastD 0#8 ≠ crc8 bytes.dropLast then some .check
      else if (bytes.getD 1 0#8).extractLsb' 0 4 ≠ 0#4 then some .code
      else none

/-- The code as received: byte 0 if it was received whole, and 00h otherwise (R166). -/
def receivedCode (bits : List Bool) : Byte :=
  (wholeBytes bits).getD 0 0#8

/-- The tag as received: the upper four bits of byte 1 if it was received whole, and 0 otherwise (R166). -/
def receivedTag (bits : List Bool) : Tag :=
  ((wholeBytes bits).getD 1 0#8).extractLsb' 4 4

/-! ## Arguments (R187, R188) -/

/-- The `n`-byte number that starts at argument byte `i`. -/
def argument (args : List Byte) (i n : Nat) : Nat :=
  natBE ((args.drop i).take n)

/-- Argument byte `i`. -/
def argumentByte (args : List Byte) (i : Nat) : Byte :=
  args.getD i 0#8

/-- The layout of I10 and I11 of Table 11-3, read from argument byte `i` on; bits 4 to 3 of I11 are unused. -/
def attributesOfBytes (args : List Byte) (i : Nat) : AttributeArgs :=
  let i10 := argumentByte args i
  let i11 := argumentByte args (i + 1)
  { userRights := i10.extractLsb' 6 2
    supervisorRights := i10.extractLsb' 4 2
    userFetch := i10.extractLsb' 2 2
    supervisorFetch := i10.extractLsb' 0 2
    denyAction := i11.extractLsb' 6 2
    log := i11.getLsbD 5
    traceClass := i11.extractLsb' 0 3 }

/-- The two bytes I10 and I11 of an attribute record. -/
def bytesOfAttributes (a : AttributeArgs) : List Byte :=
  [a.userRights ++ a.supervisorRights ++ a.userFetch ++ a.supervisorFetch,
   a.denyAction ++ BitVec.ofBool a.log ++ 0#2 ++ a.traceClass]

/-- The region-entry image of Table 11-3. -/
def regionOfBytes (args : List Byte) : RegionArgs :=
  { priority := argumentByte args 0
    base := BitVec.ofNat 32 (argument args 1 4)
    limit := BitVec.ofNat 32 (argument args 5 4)
    initiators := argumentByte args 9
    attributes := attributesOfBytes args 10 }

/-- The twelve bytes of a region-entry image (Table 11-3). -/
def bytesOfRegion (r : RegionArgs) : List Byte :=
  [r.priority] ++ bytesBE 4 r.base.toNat ++ bytesBE 4 r.limit.toNat ++ [r.initiators]
    ++ bytesOfAttributes r.attributes

/-- The comparator image of Table 11-4, read from argument byte 1 on. -/
def comparatorOfBytes (args : List Byte) : ComparatorArgs :=
  let b3 := argumentByte args 4
  { use := argumentByte args 1
    windowEnable := (argumentByte args 2).getLsbD 0
    dataInvert := (argumentByte args 3).getLsbD 1
    dataEnable := (argumentByte args 3).getLsbD 0
    direction := b3.extractLsb' 6 2
    kind := b3.extractLsb' 4 2
    privilege := b3.extractLsb' 2 2
    verdict := b3.extractLsb' 0 2
    initiators := argumentByte args 5
    classes := (argumentByte args 6).extractLsb' 0 4
    windowLow := BitVec.ofNat 40 (argument args 7 5)
    windowHigh := BitVec.ofNat 40 (argument args 12 5)
    dataValue := BitVec.ofNat 64 (argument args 17 8)
    dataMask := BitVec.ofNat 64 (argument args 25 8) }

/-- The 32 bytes of a comparator image (Table 11-4). -/
def bytesOfComparator (c : ComparatorArgs) : List Byte :=
  [c.use, 0#7 ++ BitVec.ofBool c.windowEnable, 0#6 ++ BitVec.ofBool c.dataInvert ++ BitVec.ofBool c.dataEnable,
   c.direction ++ c.kind ++ c.privilege ++ c.verdict, c.initiators, 0#4 ++ c.classes]
    ++ bytesBE 5 c.windowLow.toNat ++ bytesBE 5 c.windowHigh.toNat
    ++ bytesBE 8 c.dataValue.toNat ++ bytesBE 8 c.dataMask.toNat

/-- The step image of Table 11-5, read from argument byte 1 on. -/
def stepOfBytes (args : List Byte) : StepArgs :=
  let b1 := argumentByte args 2
  let b4 := argumentByte args 5
  { defined := argumentByte args 1
    combine := b1.extractLsb' 6 2
    condition := b1.extractLsb' 0 4
    count := BitVec.ofNat 16 (argument args 3 2)
    last := b4.extractLsb' 6 2
    actions := b4.extractLsb' 0 4 }

/-- The five bytes of a step image (Table 11-5). -/
def bytesOfStep (x : StepArgs) : List Byte :=
  [x.defined, x.combine ++ 0#2 ++ x.condition] ++ bytesBE 2 x.count.toNat ++ [x.last ++ 0#2 ++ x.actions]

/-- The arguments of SET_CAPTURE (Table 11-6). -/
def captureOfBytes (args : List Byte) : CaptureArgs :=
  { mode := argumentByte args 0
    filter := (argumentByte args 1).extractLsb' 0 4
    readData := argumentByte args 2
    writeData := argumentByte args 3
    policy := argumentByte args 4
    limit := BitVec.ofNat 16 (argument args 5 2) }

/-- The seven argument bytes of SET_CAPTURE (Table 11-6). -/
def bytesOfCapture (c : CaptureArgs) : List Byte :=
  [c.mode, 0#4 ++ c.filter, c.readData, c.writeData, c.policy] ++ bytesBE 2 c.limit.toNat

/-! ## Frames and commands (R164, R186) -/

/-- The command that a code, a tag and argument bytes make. -/
def commandOf (code : Code) (tag : Tag) (args : List Byte) : Instr :=
  match code with
  | .null => .null tag
  | .stageRegion => .stageRegion tag (regionOfBytes args)
  | .commitRegion => .commitRegion tag (argumentByte args 0)
  | .retireRegion => .retireRegion tag (argumentByte args 0)
  | .readRegion => .readRegion tag (argumentByte args 0)
  | .setDefault => .setDefault tag (attributesOfBytes args 0) (BitVec.ofNat 32 (argument args 2 4))
  | .setMode => .setMode tag (argumentByte args 0) (argumentByte args 1)
  | .readGuard => .readGuard tag
  | .queryPending => .queryPending tag
  | .abortPending => .abortPending tag
  | .readViolation => .readViolation tag (argumentByte args 0)
  | .ackViolation => .ackViolation tag (argumentByte args 0)
  | .loadComparator => .loadComparator tag (argumentByte args 0) (comparatorOfBytes args)
  | .readComparator => .readComparator tag (argumentByte args 0)
  | .loadStep => .loadStep tag (argumentByte args 0) (stepOfBytes args)
  | .arm => .arm tag
  | .disarm => .disarm tag
  | .readSequencer => .readSequencer tag
  | .setCapture => .setCapture tag (captureOfBytes args)
  | .readCapture => .readCapture tag
  | .flushTrace => .flushTrace tag
  | .readTrace => .readTrace tag
  | .linkEnable => .linkEnable tag
  | .linkDisable => .linkDisable tag
  | .readFlags => .readFlags tag
  | .clearFlags => .clearFlags tag (BitVec.ofNat 16 (argument args 0 2))
  | .setAlertEnable => .setAlertEnable tag (BitVec.ofNat 16 (argument args 0 2))
  | .maintReset => .maintReset tag

/-- The command that a received frame is: BAD_FRAME if it fails a check of R165, else the command it spells. -/
def commandOfFrame (bits : List Bool) : Instr :=
  match frameFailure bits, codeOfByte (receivedCode bits) with
  | none, some code => commandOf code (receivedTag bits) ((wholeBytes bits).drop 2).dropLast
  | _, _ => .badFrame bits

/-- The code, the tag and the argument bytes of a maintenance command. -/
def frameParts : Instr → Option (Code × Tag × List Byte)
  | .presentedRequest _ | .acceptance | .downstreamResponse _ _ | .completion | .stallLimitRunsOut | .busReset
  | .powerOnReset _ | .creditPulse | .frameEnd | .badFrame _ | .brstRelease => none
  | .null tag => some (.null, tag, [])
  | .stageRegion tag image => some (.stageRegion, tag, bytesOfRegion image)
  | .commitRegion tag slot => some (.commitRegion, tag, [slot])
  | .retireRegion tag slot => some (.retireRegion, tag, [slot])
  | .readRegion tag selector => some (.readRegion, tag, [selector])
  | .setDefault tag attributes fill =>
    some (.setDefault, tag, bytesOfAttributes attributes ++ bytesBE 4 fill.toNat)
  | .setMode tag mode escalate => some (.setMode, tag, [mode, escalate])
  | .readGuard tag => some (.readGuard, tag, [])
  | .queryPending tag => some (.queryPending, tag, [])
  | .abortPending tag => some (.abortPending, tag, [])
  | .readViolation tag position => some (.readViolation, tag, [position])
  | .ackViolation tag count => some (.ackViolation, tag, [count])
  | .loadComparator tag number image => some (.loadComparator, tag, number :: bytesOfComparator image)
  | .readComparator tag number => some (.readComparator, tag, [number])
  | .loadStep tag number image => some (.loadStep, tag, number :: bytesOfStep image)
  | .arm tag => some (.arm, tag, [])
  | .disarm tag => some (.disarm, tag, [])
  | .readSequencer tag => some (.readSequencer, tag, [])
  | .setCapture tag settings => some (.setCapture, tag, bytesOfCapture settings)
  | .readCapture tag => some (.readCapture, tag, [])
  | .flushTrace tag => some (.flushTrace, tag, [])
  | .readTrace tag => some (.readTrace, tag, [])
  | .linkEnable tag => some (.linkEnable, tag, [])
  | .linkDisable tag => some (.linkDisable, tag, [])
  | .readFlags tag => some (.readFlags, tag, [])
  | .clearFlags tag flags => some (.clearFlags, tag, bytesBE 2 flags.toNat)
  | .setAlertEnable tag flags => some (.setAlertEnable, tag, bytesBE 2 flags.toNat)
  | .maintReset tag => some (.maintReset, tag, [])

/-- The bytes of the frame of a maintenance command, its CRC-8 last (R164). -/
def frameOf (c : Instr) : Option (List Byte) :=
  match frameParts c with
  | none => none
  | some (code, tag, args) =>
    let body := code.byte :: (tag ++ 0#4) :: args
    some (body ++ [crc8 body])

/-- The command that a word spells by the opcode table's bits: the table gives no row any bits (log entry 20). -/
def decodeTableWord (_nbits _w : Nat) : Option Instr :=
  none

end Sys2Proof
end

