-- ==== Sys2Proof/Machine/Types.lean ====
section
/-! DEFINITION. The data types of the blocks' state, named as the manual names them. -/

namespace Sys2Proof.Machine

/-! ## Region table (chapter 2) -/

/-- Data rights (Table 2-1). -/
inductive Rights where
  | none
  | read
  | readWrite
  deriving DecidableEq, Repr

/-- What a denial leads to in ENFORCE (Table 2-1). -/
inductive DenyAction where
  | refuse
  | absorb
  deriving DecidableEq, Repr

/-- The attributes of a deciding record (R22, R26); the default attribute record is one. A fetch field is true
for ALLOWED. -/
structure Attributes where
  userRights : Rights
  supervisorRights : Rights
  userFetch : Bool
  supervisorFetch : Bool
  denyAction : DenyAction
  log : Bool
  traceClass : TraceClass
  deriving DecidableEq, Repr

/-- A complete entry image: every field of Table 2-1 except valid (R28). -/
structure RegionImage where
  priority : BitVec 4
  base : Granule
  limit : Granule
  initiators : InitiatorSet
  attributes : Attributes
  deriving DecidableEq, Repr

/-- A slot of the region table (R22). -/
structure RegionSlot where
  valid : Bool
  image : RegionImage
  deriving DecidableEq, Repr

/-- The region table (R22, R26, R28). -/
structure RegionTable where
  slots : Vector RegionSlot 16
  defaults : Attributes
  fill : BitVec 32
  /-- The staging record; none is EMPTY. -/
  staging : Option RegionImage
  deriving DecidableEq, Repr

/-! ## Guard (chapter 3) -/

/-- The guard's mode (R41). -/
inductive Mode where
  | bypass
  | monitor
  | enforce
  deriving DecidableEq, Repr

/-- The guard's state (R41). -/
structure GuardUnit where
  mode : Mode
  escalate : Bool
  lockdown : Bool
  strap : Level
  deriving DecidableEq, Repr

/-- The matched field of a verdict (R48). -/
inductive Matched where
  | slot (i : Fin 16)
  | default
  | none
  deriving DecidableEq, Repr

/-- The action of a verdict (R48). -/
inductive Action where
  | pass
  | refuse
  | absorb
  | passedMonitor
  | bypass
  deriving DecidableEq, Repr

/-- The eight reasons of Table 3-1. -/
inductive Reason where
  | readDenied
  | writeDenied
  | fetchDenied
  | lockedWriteDenied
  | malformedAlign
  | malformedKind
  | lockSequence
  | lockdownWrite
  deriving DecidableEq, Repr

/-- A verdict (R48). -/
structure Verdict where
  matched : Matched
  action : Action
  reason : Option Reason
  traceClass : TraceClass
  deriving DecidableEq, Repr

/-! ## Transaction tracker (chapter 1) -/

/-- The result of a transaction: a status, with read data for a READ answered OKAY (Table 1-3). -/
structure Result where
  status : BusStatus
  data : List Beat
  deriving DecidableEq, Repr

/-- The lock role of an in-flight entry (Table 1-3). -/
inductive LockRole where
  | none
  | openingRead
  | closingWrite (traceDropped : Bool)
  deriving DecidableEq, Repr

/-- An entry of the in-flight list (Table 1-3). -/
structure Entry where
  ordinal : Ordinal
  request : Request
  verdict : Verdict
  forwarded : Bool
  result : Option Result
  role : LockRole
  deriving DecidableEq, Repr

/-- The lock record of an open lock (R11): the lock state is ABSORBED where `absorbed` holds, else OPEN. -/
structure Lock where
  absorbed : Bool
  initiator : Initiator
  address : Address
  size : Size
  matched : Matched
  traceClass : TraceClass
  outstanding : Bool
  traceDropped : Bool
  deriving DecidableEq, Repr

/-- The transaction tracker (R5 to R7, R11, R17). -/
structure Tracker where
  /-- Oldest first. -/
  inFlight : List Entry
  presented : Option Request
  ordinal : Ordinal
  /-- None is lock state NONE. -/
  lock : Option Lock
  /-- None is stall state NONE; some is WAITING, with the stall timer's count of microseconds (R191). -/
  stall : Option Nat
  deriving DecidableEq, Repr

/-! ## Violation list (chapter 4) -/

/-- The action taken on a recorded violation (R53). -/
inductive ActionTaken where
  | refused
  | absorbed
  | passedMonitor
  deriving DecidableEq, Repr

/-- A violation record (Table 4-1). -/
structure Violation where
  first : Ordinal
  last : Ordinal
  address : Address
  size : Size
  direction : Direction
  kind : Kind
  privilege : Privilege
  initiator : Initiator
  matched : Matched
  reason : Reason
  actionTaken : ActionTaken
  count : BitVec 8
  deriving DecidableEq, Repr

/-- The violation list (R61). -/
structure ViolationList where
  /-- Oldest first. -/
  records : List Violation
  overflow : BitVec 16
  deriving DecidableEq, Repr

/-! ## Comparator bank (chapter 5) -/

/-- The verdict filter of a comparator (R81). -/
inductive VerdictFilter where
  | allowed
  | denied
  deriving DecidableEq, Repr

/-- A comparator (Table 5-1). A filter that is none is ANY. -/
structure Comparator where
  used : Bool
  windowEnable : Bool
  windowLow : Address
  windowHigh : Address
  direction : Option Direction
  kind : Option Kind
  privilege : Option Privilege
  initiators : InitiatorSet
  verdict : Option VerdictFilter
  classes : ClassSet
  dataEnable : Bool
  dataValue : Beat
  dataMask : Beat
  dataInvert : Bool
  deriving DecidableEq, Repr

/-! ## Trigger sequencer (chapter 6) -/

/-- How a condition's comparators are joined (R90). -/
inductive Combine where
  | any
  | all
  deriving DecidableEq, Repr

/-- The actions of a step (Table 6-1). -/
structure StepActions where
  captureOn : Bool
  captureOff : Bool
  mark : Bool
  alert : Bool
  deriving DecidableEq, Repr

/-- A step of the program (Table 6-1). -/
structure ProgramStep where
  defined : Bool
  condition : ComparatorSet
  combine : Combine
  count : BitVec 16
  actions : StepActions
  last : Bool
  deriving DecidableEq, Repr

/-- The sequencer's state (R91). -/
inductive SequencerState where
  | disarmed
  | armed (k : Fin 4) (r : BitVec 16)
  | done
  deriving DecidableEq, Repr

/-- The trigger sequencer (R89, R91). -/
structure Sequencer where
  state : SequencerState
  steps : Vector ProgramStep 4
  restart : ComparatorSet
  deriving DecidableEq, Repr

/-- The outcome of stepping on a transaction (R97). -/
inductive StepOutcome where
  | none
  | restart
  | counted
  | fired (k : Fin 4) (actions : StepActions) (last : Bool)
  deriving DecidableEq, Repr

/-! ## Capture unit and trace buffer (chapter 7) -/

/-- The capture mode (Table 7-1). -/
inductive CaptureMode where
  | off
  | always
  | sequenced
  deriving DecidableEq, Repr

/-- The full policy (Table 7-1). -/
inductive FullPolicy where
  | drop
  | stall
  deriving DecidableEq, Repr

/-- The fields of a record other than its sequence number (Table 7-2). -/
inductive RecordBody where
  | address (ordinal : Ordinal) (address : Address) (size : Size) (direction : Direction) (kind : Kind)
      (privilege : Privilege) (initiator : Initiator) (lock : Bool) (verdict : Verdict) (status : BusStatus)
  | data (ordinal : Ordinal) (direction : Direction) (size : Size) (value : Beat)
  | mark (ordinal : Ordinal) (step : Fin 4) (last : Bool)
  | loss (count : BitVec 16)
  deriving DecidableEq, Repr

/-- A stored record (Table 7-2). -/
structure Record where
  sequence : SeqNo
  body : RecordBody
  deriving DecidableEq, Repr

/-- The capture unit and the trace buffer (R107, R108, R112 to R115, R125). -/
structure Capture where
  mode : CaptureMode
  filter : ComparatorSet
  readData : Bool
  writeData : Bool
  policy : FullPolicy
  limit : BitVec 16
  /-- The capture state (R108). -/
  on : Bool
  /-- Oldest first. -/
  buffer : List Record
  /-- Whether the reserved count is 2; else it is 0 (R115). -/
  reserved : Bool
  /-- Whether the head is the record in transmission (R114). -/
  inTransmission : Bool
  loss : BitVec 16
  /-- The sequence number the next stored record will take (R113). -/
  sequence : SeqNo
  deriving DecidableEq, Repr

/-! ## Trace link (chapter 8) -/

/-- The link state (R134). -/
inductive LinkState where
  | disabled
  | running
  | fault
  deriving DecidableEq, Repr

/-- A frame being sent: its content, fixed at its start, and how many of its bytes have been sent (R134, R138). -/
structure Sending where
  content : List Byte
  position : Nat
  deriving DecidableEq, Repr

/-- The trace link (R134). -/
structure Link where
  state : LinkState
  credit : Nat
  /-- None is frame state IDLE. -/
  frame : Option Sending
  deriving DecidableEq, Repr

/-! ## Event flag unit (chapter 9) -/

/-- The twelve flags (Table 9-1). -/
inductive Flag where
  | lockdown
  | overflow
  | violation
  | linkError
  | stallTimeout
  | traceLoss
  | seqAlert
  | seqDone
  | traceHalf
  | commitDone
  | lockBroken
  | downstreamError
  deriving DecidableEq, Repr

/-- The event flag unit (R150). The level flags have no memory of their own (R151): bits 1 and 4 of `events`
stay clear. -/
structure FlagUnit where
  events : FlagSet
  enables : FlagSet
  deriving DecidableEq, Repr

/-! ## Maintenance port (chapter 10) -/

/-- The statuses (Table 10-2). -/
inductive Status where
  | ok
  | pending
  | busy
  | refused
  | badFrame
  | resetDone
  deriving DecidableEq, Repr

/-- The refusal reasons (Table 10-3). -/
inductive RefusalReason where
  | badSlot
  | badRange
  | emptyInitiators
  | priorityConflict
  | noStage
  | lockedDown
  | badCount
  | seqArmed
  | badProgram
  | linkOwns
  | linkFault
  | nothingPending
  | badArgument
  | empty
  deriving DecidableEq, Repr

/-- A response (R167): its CRC-8 is computed from the rest. -/
structure Response where
  status : Status
  tag : Tag
  code : Byte
  result : List Byte
  deriving DecidableEq, Repr

/-- A policy command that has passed its tests, with its copy of its arguments (R174). -/
inductive PolicyCommand where
  | commitRegion (slot : Fin 16) (image : RegionImage)
  | retireRegion (slot : Fin 16)
  | setDefault (attributes : Attributes) (fill : BitVec 32)
  | setMode (mode : Mode) (escalate : Bool)
  deriving DecidableEq, Repr

/-- The waiting command of a WAITING pending slot (R174). -/
structure Waiting where
  tag : Tag
  command : PolicyCommand
  deriving DecidableEq, Repr

/-- What became of a waiting command (R177). -/
inductive LastOutcome where
  | none
  | installed
  | aborted
  | cancelled
  deriving DecidableEq, Repr

/-- The last-outcome record (R177). -/
structure OutcomeRecord where
  outcome : LastOutcome
  code : Byte
  tag : Tag
  deriving DecidableEq, Repr

/-- The maintenance port. -/
structure Port where
  /-- The bits of the frame in progress (R163); log entry 7. -/
  receiver : List Bool
  held : Response
  /-- None is EMPTY. -/
  slot : Option Waiting
  last : OutcomeRecord
  deriving DecidableEq, Repr

/-! ## What leaves the part -/

/-- A response given at the upstream port (R2), with the ordinal of its transaction. -/
structure UpstreamResponse where
  ordinal : Ordinal
  status : BusStatus
  data : List Beat
  deriving DecidableEq, Repr

/-- A request issued at the downstream port: every field of Table 1-1 but the initiator tag (R9). -/
structure IssuedRequest where
  address : Address
  size : Size
  direction : Direction
  kind : Kind
  privilege : Privilege
  lock : Bool
  data : List Beat
  deriving DecidableEq, Repr

end Sys2Proof.Machine
end

