-- ==== Sys2Proof/Machine/Operands.lean ====
section
/-! DEFINITION. What an operand's fields mean: the derived quantities of a request (R1), and the codes of
Table 11-1 read from arguments and written to results. A reader of a code answers none where the code is out of
range; the owning rule then refuses the command. -/

namespace Sys2Proof

/-! ## Sizes and spans (R1) -/

/-- The bytes of one beat. -/
def Size.beatBytes : Size → Nat
  | .b1 => 1
  | .b2 => 2
  | .b4 => 4
  | .b8 | .burst2 | .burst4 | .burst8 => 8

/-- The number of beats. -/
def Size.beats : Size → Nat
  | .b1 | .b2 | .b4 | .b8 => 1
  | .burst2 => 2
  | .burst4 => 4
  | .burst8 => 8

/-- Whether the transfer is a burst. -/
def Size.isBurst : Size → Bool
  | .burst2 | .burst4 | .burst8 => true
  | .b1 | .b2 | .b4 | .b8 => false

/-- The length of a transaction, in bytes. -/
def Size.length (s : Size) : Nat :=
  s.beats * s.beatBytes

/-- The granule that contains an address. -/
def granuleOf (a : Address) : Granule :=
  a.extractLsb' 6 30

/-- The last byte of a transaction's span, which ends at F_FFFF_FFFFh at the latest. -/
def Request.lastByte (r : Request) : Nat :=
  min (r.address.toNat + r.size.length - 1) (2 ^ 36 - 1)

/-- The low-order bytes of a value, as many as a beat of the size has. -/
def lowBytes (s : Size) (v : Beat) : Beat :=
  v &&& BitVec.ofNat 64 (256 ^ s.beatBytes - 1)

end Sys2Proof

namespace Sys2Proof.Machine

/-! ## Codes of Table 11-1 -/

/-- Rights, 2 bits. -/
def rightsOfCode (c : BitVec 2) : Option Rights :=
  if c = 0 then some .none else if c = 1 then some .read else if c = 2 then some .readWrite else none

/-- The code of rights. -/
def codeOfRights : Rights → BitVec 2
  | .none => 0
  | .read => 1
  | .readWrite => 2

/-- Fetch, 2 bits: true is ALLOWED. -/
def fetchOfCode (c : BitVec 2) : Option Bool :=
  if c = 0 then some false else if c = 1 then some true else none

/-- The code of a fetch field. -/
def codeOfFetch (b : Bool) : BitVec 2 :=
  if b then 1 else 0

/-- Deny action, 2 bits. -/
def denyOfCode (c : BitVec 2) : Option DenyAction :=
  if c = 0 then some .refuse else if c = 1 then some .absorb else none

/-- The code of a deny action. -/
def codeOfDeny : DenyAction → BitVec 2
  | .refuse => 0
  | .absorb => 1

/-- Yes or no, one byte: escalate, read-data capture, write-data capture. -/
def yesNoOfCode (c : Byte) : Option Bool :=
  if c = 0 then some false else if c = 1 then some true else none

/-- The code of a yes or no, one byte. -/
def codeOfYesNo (b : Bool) : Byte :=
  if b then 1 else 0

/-- Guard mode, one byte. -/
def modeOfCode (c : Byte) : Option Mode :=
  if c = 0 then some .bypass else if c = 1 then some .monitor else if c = 2 then some .enforce else none

/-- The code of a guard mode. -/
def codeOfMode : Mode → Byte
  | .bypass => 0
  | .monitor => 1
  | .enforce => 2

/-- A comparator's two-valued filter or ANY, 2 bits: 00b and 01b are the values, 10b is ANY. -/
def filterOfCode {α : Type} (zero one : α) (c : BitVec 2) : Option (Option α) :=
  if c = 0 then some (some zero) else if c = 1 then some (some one) else if c = 2 then some none else none

/-- The code of a filter; `isOne` tells the value of code 01b. -/
def codeOfFilter {α : Type} (isOne : α → Bool) : Option α → BitVec 2
  | none => 2
  | some a => if isOne a then 1 else 0

/-- Step combine, 2 bits. -/
def combineOfCode (c : BitVec 2) : Option Combine :=
  if c = 0 then some .any else if c = 1 then some .all else none

/-- The code of a combine value. -/
def codeOfCombine : Combine → BitVec 2
  | .any => 0
  | .all => 1

/-- Step final, 2 bits: true is yes. -/
def finalOfCode (c : BitVec 2) : Option Bool :=
  if c = 0 then some false else if c = 1 then some true else none

/-- Capture mode, one byte. -/
def captureModeOfCode (c : Byte) : Option CaptureMode :=
  if c = 0 then some .off else if c = 1 then some .always else if c = 2 then some .sequenced else none

/-- The code of a capture mode. -/
def codeOfCaptureMode : CaptureMode → Byte
  | .off => 0
  | .always => 1
  | .sequenced => 2

/-- Full policy, one byte. -/
def policyOfCode (c : Byte) : Option FullPolicy :=
  if c = 0 then some .drop else if c = 1 then some .stall else none

/-- The code of a full policy. -/
def codeOfPolicy : FullPolicy → Byte
  | .drop => 0
  | .stall => 1

/-- The code of a size. -/
def codeOfSize : Size → Byte
  | .b1 => 0
  | .b2 => 1
  | .b4 => 2
  | .b8 => 3
  | .burst2 => 4
  | .burst4 => 5
  | .burst8 => 6

/-- The code of a matched field. -/
def codeOfMatched : Matched → Byte
  | .slot i => BitVec.ofNat 8 i.val
  | .default => 0x10
  | .none => 0x11

/-- The code of a verdict action. -/
def codeOfAction : Action → Byte
  | .pass => 0
  | .refuse => 1
  | .absorb => 2
  | .passedMonitor => 3
  | .bypass => 4

/-- The code of an action taken. -/
def codeOfActionTaken : ActionTaken → Byte
  | .refused => 1
  | .absorbed => 2
  | .passedMonitor => 3

/-- The code of a reason. -/
def codeOfReason : Reason → Byte
  | .readDenied => 1
  | .writeDenied => 2
  | .fetchDenied => 3
  | .lockedWriteDenied => 4
  | .malformedAlign => 5
  | .malformedKind => 6
  | .lockSequence => 7
  | .lockdownWrite => 8

/-- The bit of a transaction's direction. -/
def bitOfDirection : Direction → BitVec 1
  | .read => 0
  | .write => 1

/-- The bit of a transaction's kind. -/
def bitOfKind : Kind → BitVec 1
  | .data => 0
  | .fetch => 1

/-- The bit of a transaction's privilege. -/
def bitOfPrivilege : Privilege → BitVec 1
  | .user => 0
  | .supervisor => 1

/-- The bit of a response status. -/
def bitOfStatus : BusStatus → BitVec 1
  | .okay => 0
  | .error => 1

/-- The code of a link state. -/
def codeOfLinkState : LinkState → Byte
  | .disabled => 0
  | .running => 1
  | .fault => 2

/-- The code of a last outcome. -/
def codeOfLastOutcome : LastOutcome → Byte
  | .none => 0
  | .installed => 1
  | .aborted => 2
  | .cancelled => 3

/-- The code of a status (R186). -/
def codeOfStatus : Status → Byte
  | .ok => 0
  | .pending => 1
  | .busy => 2
  | .refused => 3
  | .badFrame => 4
  | .resetDone => 5

/-- The code of a refusal reason (Table 11-2). -/
def codeOfRefusal : RefusalReason → Byte
  | .badSlot => 0x01
  | .badRange => 0x02
  | .emptyInitiators => 0x03
  | .priorityConflict => 0x04
  | .noStage => 0x05
  | .lockedDown => 0x06
  | .badCount => 0x07
  | .seqArmed => 0x08
  | .badProgram => 0x09
  | .linkOwns => 0x0A
  | .linkFault => 0x0B
  | .nothingPending => 0x0C
  | .badArgument => 0x0D
  | .empty => 0x0E

/-- The code of a BAD_FRAME sub-reason (R186). -/
def codeOfSubReason : SubReason → Byte
  | .length => 0x01
  | .code => 0x02
  | .check => 0x03

/-! ## Images -/

/-- The attribute record that argument fields give; none where a field is out of range (R28, R34). -/
def attributesOfArgs (a : AttributeArgs) : Option Attributes :=
  match rightsOfCode a.userRights, rightsOfCode a.supervisorRights, fetchOfCode a.userFetch,
    fetchOfCode a.supervisorFetch, denyOfCode a.denyAction with
  | some userRights, some supervisorRights, some userFetch, some supervisorFetch, some denyAction =>
    if a.traceClass.toNat ≤ 3 then
      some
        { userRights, supervisorRights, userFetch, supervisorFetch, denyAction, log := a.log
          traceClass := a.traceClass.setWidth 2 }
    else none
  | _, _, _, _, _ => none

/-- The fields of an attribute record as they are written (Table 11-3). -/
def argsOfAttributes (a : Attributes) : AttributeArgs :=
  { userRights := codeOfRights a.userRights
    supervisorRights := codeOfRights a.supervisorRights
    userFetch := codeOfFetch a.userFetch
    supervisorFetch := codeOfFetch a.supervisorFetch
    denyAction := codeOfDeny a.denyAction
    log := a.log
    traceClass := a.traceClass.setWidth 3 }

/-- The entry image that argument fields give; none where a field is out of range (R28). -/
def regionOfArgs (r : RegionArgs) : Option RegionImage :=
  match attributesOfArgs r.attributes with
  | some attributes =>
    if r.priority.toNat ≤ 15 ∧ r.base.toNat < 2 ^ 30 ∧ r.limit.toNat < 2 ^ 30 then
      some
        { priority := r.priority.setWidth 4
          base := r.base.setWidth 30
          limit := r.limit.setWidth 30
          initiators := r.initiators
          attributes }
    else none
  | none => none

/-- The fields of an entry image as they are written (Table 11-3). -/
def argsOfRegion (r : RegionImage) : RegionArgs :=
  { priority := r.priority.setWidth 8
    base := r.base.setWidth 32
    limit := r.limit.setWidth 32
    initiators := r.initiators
    attributes := argsOfAttributes r.attributes }

/-- The comparator that a carried image loads: the cleared image for UNUSED; none where the image is refused
(R85). -/
def comparatorOfArgs (cleared : Comparator) (c : ComparatorArgs) : Option Comparator :=
  if c.use = 0 then some cleared
  else if c.use = 1 then
    if c.windowEnable ∧ c.windowHigh.toNat < c.windowLow.toNat then none
    else if 2 ^ 36 ≤ c.windowLow.toNat ∨ 2 ^ 36 ≤ c.windowHigh.toNat then none
    else if c.initiators = 0 ∨ c.classes = 0 then none
    else
      match filterOfCode Direction.read .write c.direction, filterOfCode Kind.data .fetch c.kind,
        filterOfCode Privilege.user .supervisor c.privilege,
        filterOfCode VerdictFilter.allowed .denied c.verdict with
      | some direction, some kind, some privilege, some verdict =>
        some
          { used := true
            windowEnable := c.windowEnable
            windowLow := c.windowLow.setWidth 36
            windowHigh := c.windowHigh.setWidth 36
            direction, kind, privilege
            initiators := c.initiators
            verdict
            classes := c.classes
            dataEnable := c.dataEnable
            dataValue := c.dataValue
            dataMask := c.dataMask
            dataInvert := c.dataInvert }
      | _, _, _, _ => none
  else none

/-- The fields of a comparator as they are written (Table 11-4). -/
def argsOfComparator (c : Comparator) : ComparatorArgs :=
  { use := codeOfYesNo c.used
    windowEnable := c.windowEnable
    dataInvert := c.dataInvert
    dataEnable := c.dataEnable
    direction := codeOfFilter (· == .write) c.direction
    kind := codeOfFilter (· == .fetch) c.kind
    privilege := codeOfFilter (· == .supervisor) c.privilege
    verdict := codeOfFilter (· == .denied) c.verdict
    initiators := c.initiators
    classes := c.classes
    windowLow := c.windowLow.setWidth 40
    windowHigh := c.windowHigh.setWidth 40
    dataValue := c.dataValue
    dataMask := c.dataMask }

/-- The actions of a step image: bit 0 CAPTURE_ON, bit 1 CAPTURE_OFF, bit 2 MARK, bit 3 ALERT (Table 11-5). -/
def actionsOfBits (b : BitVec 4) : StepActions :=
  { captureOn := b.getLsbD 0, captureOff := b.getLsbD 1, mark := b.getLsbD 2, alert := b.getLsbD 3 }

/-- The bits of a step's actions (Table 11-5). -/
def bitsOfActions (a : StepActions) : BitVec 4 :=
  BitVec.ofBool a.alert ++ BitVec.ofBool a.mark ++ BitVec.ofBool a.captureOff ++ BitVec.ofBool a.captureOn

/-- The step that a carried image loads: the cleared step image for UNDEFINED; none where the image is refused
(R92). -/
def stepOfArgs (cleared : ProgramStep) (x : StepArgs) : Option ProgramStep :=
  if x.defined = 0 then some cleared
  else if x.defined = 1 then
    match combineOfCode x.combine, finalOfCode x.last with
    | some combine, some last =>
      if x.count = 0 then none
      else
        some
          { defined := true, condition := x.condition, combine, count := x.count
            actions := actionsOfBits x.actions, last }
    | _, _ => none
  else none

/-- The fields of a step as they are written (Table 11-5). -/
def argsOfStep (x : ProgramStep) : StepArgs :=
  { defined := codeOfYesNo x.defined
    combine := codeOfCombine x.combine
    condition := x.condition
    count := x.count
    last := if x.last then 1 else 0
    actions := bitsOfActions x.actions }

/-- A slot number, 0 to 15; none for 10h to FFh (R187). -/
def slotOfByte (b : BitVec 8) : Option (Fin 16) :=
  if h : b.toNat < 16 then some ⟨b.toNat, h⟩ else none

/-- A comparator number or a step number, 0 to 3; none above 3 (R85, R87, R92). -/
def fourOfByte (b : BitVec 8) : Option (Fin 4) :=
  if h : b.toNat < 4 then some ⟨b.toNat, h⟩ else none

end Sys2Proof.Machine
end

