-- ==== Sys2Proof/Machine/ResetValues.lean ====
section
/-! DEFINITION. The cleared images and what each block holds after a power-on reset or a MAINT_RESET. -/

namespace Sys2Proof.Machine

/-- The attributes of the cleared image (R38). -/
def clearedAttributes : Attributes :=
  { userRights := .none, supervisorRights := .none, userFetch := false, supervisorFetch := false,
    denyAction := .refuse, log := false, traceClass := 0#2 }

/-- The cleared image of a slot (R38). -/
def clearedImage : RegionImage :=
  { priority := 0#4, base := 0#30, limit := 0#30, initiators := 0#8, attributes := clearedAttributes }

/-- The default attributes chosen by the strap value (Table 2-4). -/
def strapDefaults (strap : Level) : Attributes :=
  match strap with
  | .high =>
    { userRights := .none, supervisorRights := .readWrite, userFetch := false, supervisorFetch := true,
      denyAction := .refuse, log := true, traceClass := 0#2 }
  | .low =>
    { userRights := .readWrite, supervisorRights := .readWrite, userFetch := true, supervisorFetch := true,
      denyAction := .refuse, log := true, traceClass := 0#2 }

/-- The region table after power-on reset (R38) and after MAINT_RESET (R39). -/
def resetTable (strap : Level) : RegionTable :=
  { slots := Vector.replicate 16 { valid := false, image := clearedImage }
    defaults := strapDefaults strap
    fill := 0#32
    staging := none }

/-- The guard after power-on reset (R42) and after MAINT_RESET (R59), under a strap value. -/
def resetGuard (strap : Level) : GuardUnit :=
  { mode := match strap with
      | .high => .enforce
      | .low => .bypass
    escalate := false
    lockdown := false
    strap := strap }

/-- The tracker after power-on reset (R21). -/
def resetTracker : Tracker :=
  { inFlight := [], presented := none, ordinal := 0#32, lock := none, stall := none }

/-- The violation list after power-on reset and MAINT_RESET (R74). -/
def resetViolations : ViolationList :=
  { records := [], overflow := 0#16 }

/-- The cleared image of a comparator (R77). -/
def clearedComparator : Comparator :=
  { used := false, windowEnable := false, windowLow := 0#36, windowHigh := 0#36, direction := none, kind := none,
    privilege := none, initiators := 0xFF#8, verdict := none, classes := 0xF#4, dataEnable := false,
    dataValue := 0#64, dataMask := 0#64, dataInvert := false }

/-- The comparator bank after power-on reset and MAINT_RESET (R88). -/
def resetComparators : Vector Comparator 4 :=
  Vector.replicate 4 clearedComparator

/-- No action. -/
def noActions : StepActions :=
  { captureOn := false, captureOff := false, mark := false, alert := false }

/-- The cleared step image (R89). -/
def clearedStep : ProgramStep :=
  { defined := false, condition := 0#4, combine := .any, count := 1#16, actions := noActions, last := false }

/-- The sequencer after power-on reset and MAINT_RESET (R106). -/
def resetSequencer : Sequencer :=
  { state := .disarmed, steps := Vector.replicate 4 clearedStep, restart := 0#4 }

/-- The capture unit and the trace buffer after power-on reset (R131) and MAINT_RESET (R132). -/
def resetCapture : Capture :=
  { mode := .off, filter := 0#4, readData := false, writeData := false, policy := .drop, limit := 0#16,
    on := false, buffer := [], reserved := false, inTransmission := false, loss := 0#16, sequence := 0#16 }

/-- The trace link after power-on reset (R147) and MAINT_RESET (R148). -/
def resetLink : Link :=
  { state := .disabled, credit := 0, frame := none }

/-- The event flag unit after power-on reset (R160) and MAINT_RESET (R161). -/
def resetFlags : FlagUnit :=
  { events := 0#16, enables := 0#16 }

/-- The last-outcome record NONE (R177). -/
def noOutcome : OutcomeRecord :=
  { outcome := .none, code := 0x00#8, tag := 0#4 }

/-- The maintenance port after power-on reset (R182). -/
def resetPort : Port :=
  { receiver := [], held := { status := .ok, tag := 0#4, code := 0x00#8, result := [] }, slot := none,
    last := noOutcome }

end Sys2Proof.Machine
end

