-- ==== Sys2Proof/Machine/State.lean ====
section
/-! DEFINITION. The state of the FGM-316: every block's state, the queue of commands, and what has left the part. -/

namespace Sys2Proof.Machine

/-- The reasons a step can stop the machine. There are none: every happening the manual describes has a next
state (log entry 18). -/
inductive Fault : Type where
  deriving DecidableEq, Repr

/-- The reasons a command can have no meaning. -/
inductive Refusal where
  /-- The command is not modelled. No command of this model raises it; safe. -/
  | notModelled (mnemonic : String)
  deriving DecidableEq, Repr

/-- The state of the part. INVENTORY.md names the rule that gives each field. -/
structure State where
  /-- The commands that wait, first in first out. The model's own field. -/
  pending : List Instr
  /-- Whether BRST is asserted. -/
  brst : Bool
  tracker : Tracker
  table : RegionTable
  guardUnit : GuardUnit
  violations : ViolationList
  comparators : Vector Comparator 4
  sequencer : Sequencer
  capture : Capture
  link : Link
  flags : FlagUnit
  port : Port
  /-- The reference timer, in microseconds since the end of power-on reset (R191). -/
  refTimer : Nat
  /-- The upstream responses given since power-on, newest first. The model's own field. -/
  upstream : List UpstreamResponse
  /-- The requests issued downstream since power-on, newest first. The model's own field. -/
  downstream : List IssuedRequest
  /-- The frames sent on TLD since power-on, whole or cut short, newest first. The model's own field. -/
  tld : List (List Byte)
  /-- The bits shifted out on MDO since power-on, frame by frame, newest first. The model's own field. -/
  mdo : List (List Bool)
  /-- How many free values have been drawn. The model's own field. -/
  freeCount : Nat
  deriving DecidableEq, Repr

/-- The part at the end of a power-on reset that samples GSTRAP at a level (R21, R38, R42, R74, R88, R106, R131,
R147, R160, R182). -/
def State.powerOn (gstrap : Level) : State :=
  { pending := []
    brst := false
    tracker := resetTracker
    table := resetTable gstrap
    guardUnit := resetGuard gstrap
    violations := resetViolations
    comparators := resetComparators
    sequencer := resetSequencer
    capture := resetCapture
    link := resetLink
    flags := resetFlags
    port := resetPort
    refTimer := 0
    upstream := []
    downstream := []
    tld := []
    mdo := []
    freeCount := 0 }

/-- The machine right after reset. GSTRAP high: DESIGN CHOICE, log entry 1. -/
def State.reset : State :=
  State.powerOn .high

end Sys2Proof.Machine
end

