-- ==== Sys2Proof/Machine/Comparators.lean ====
section
/-! DEFINITION. The comparator bank: the tests of a comparator on an in-flight entry, and the match set
(R78 to R84). -/

namespace Sys2Proof.Machine

/-- The data a transaction has as seen upstream, at its size (R82); none where it has none. A malformed single-beat FETCH
WRITE that is forwarded and answered ERROR falls under two lines of R82 that disagree: its write data is seen, as the
direction says. DESIGN CHOICE, log entry 21. -/
def Entry.dataSeen (e : Entry) : Option Beat :=
  if e.request.size.isBurst then none
  else
    match e.request.direction with
    | .write =>
      if e.forwarded || e.verdict.action == .absorb then
        some (lowBytes e.request.size (e.request.data.headD 0#64))
      else none
    | .read =>
      match e.result with
      | none => none
      | some result =>
        match result.status with
        | .okay => some (lowBytes e.request.size (result.data.headD 0#64))
        | .error => none

/-- The window test (R79). -/
def Comparator.windowTest (c : Comparator) (r : Request) : Bool :=
  !c.windowEnable || (decide (r.address ≤ c.windowHigh) && decide (c.windowLow.toNat ≤ r.lastByte))

/-- A filter passes when it is ANY or equals the value (R80). -/
def passes {α : Type} [DecidableEq α] (filter : Option α) (a : α) : Bool :=
  match filter with
  | none => true
  | some b => b == a

/-- The direction, kind, privilege and initiator tests (R80). -/
def Comparator.requestTest (c : Comparator) (r : Request) : Bool :=
  passes c.direction r.direction && passes c.kind r.kind && passes c.privilege r.privilege
    && c.initiators.getLsbD r.initiator.toNat

/-- The verdict and trace-class tests (R81). -/
def Comparator.verdictTest (c : Comparator) (v : Verdict) : Bool :=
  passes c.verdict (if v.reason.isSome then .denied else .allowed) && c.classes.getLsbD v.traceClass.toNat

/-- The masked compare at a size (R83). -/
def Comparator.maskedCompare (c : Comparator) (s : Size) (data : Beat) : Bool :=
  lowBytes s (data &&& c.dataMask) == lowBytes s (c.dataValue &&& c.dataMask)

/-- The data test (R82, R83). -/
def Comparator.dataTest (c : Comparator) (e : Entry) : Bool :=
  !c.dataEnable ||
    match e.dataSeen with
    | none => false
    | some data => c.maskedCompare e.request.size data != c.dataInvert

/-- Whether a comparator matches a transaction (R76, R78). -/
def Comparator.matchesEntry (c : Comparator) (e : Entry) : Bool :=
  c.used && c.windowTest e.request && c.requestTest e.request && c.verdictTest e.verdict && c.dataTest e

/-- The match set of a transaction (R84). -/
def matchSet (bank : Vector Comparator 4) (e : Entry) : ComparatorSet :=
  BitVec.ofBool ((bank.get 3).matchesEntry e) ++ BitVec.ofBool ((bank.get 2).matchesEntry e)
    ++ BitVec.ofBool ((bank.get 1).matchesEntry e) ++ BitVec.ofBool ((bank.get 0).matchesEntry e)

end Sys2Proof.Machine
end

