-- ==== Sys2Proof/Machine/Sequencing.lean ====
section
/-! DEFINITION. The trigger sequencer: satisfying a step (R90), the validity of a program (R94), and stepping on a
completed transaction (R97 to R100). -/

namespace Sys2Proof.Machine

/-- Whether a match set satisfies a step (R90). -/
def ProgramStep.satisfiedBy (x : ProgramStep) (m : ComparatorSet) : Bool :=
  match x.combine with
  | .any => (x.condition &&& m) != 0#4
  | .all => (x.condition &&& m) == x.condition

/-- Whether a match set matches the restart set (R90). -/
def Sequencer.restartedBy (q : Sequencer) (m : ComparatorSet) : Bool :=
  (q.restart &&& m) != 0#4

/-- A step breaks none of R94's conditions on a single step. -/
def ProgramStep.sound (x : ProgramStep) : Bool :=
  x.condition != 0#4 && !(x.actions.captureOn && x.actions.captureOff)

/-- The conditions of R94 on a program, from its first step on: the defined steps come first, each is sound, the
last of them is final and the others are not. -/
def validProgram : List ProgramStep → Bool
  | [] => false
  | x :: rest =>
    x.defined && x.sound && (if rest.any (·.defined) then !x.last && validProgram rest else x.last)

/-- Whether the program can be armed (R94). -/
def Sequencer.valid (q : Sequencer) : Bool :=
  validProgram q.steps.toList

/-- Whether the sequencer is ARMED. -/
def Sequencer.isArmed (q : Sequencer) : Bool :=
  match q.state with
  | .armed _ _ => true
  | .disarmed | .done => false

/-- The state that counts a step from its full count. -/
def Sequencer.counting (q : Sequencer) (k : Fin 4) : SequencerState :=
  .armed k (q.steps.get k).count

/-- What stepping on a transaction with a match set gives: the state after it and the outcome (R97 to R100).
After a non-final S3 the count goes to S0; no valid program has one (log entry 14). -/
def Sequencer.step (q : Sequencer) (m : ComparatorSet) : SequencerState × StepOutcome :=
  match q.state with
  | .disarmed => (.disarmed, .none)
  | .done => (.done, .none)
  | .armed k r =>
    if k ≠ 0 ∧ q.restartedBy m then (q.counting 0, .restart)
    else if (q.steps.get k).satisfiedBy m then
      if 1 < r.toNat then (.armed k (r - 1#16), .counted)
      else
        (if (q.steps.get k).last then .done else q.counting (k + 1),
          .fired k (q.steps.get k).actions (q.steps.get k).last)
    else (.armed k r, .none)

/-- Whether a fired step's actions include one; false for every other outcome. -/
def StepOutcome.has (o : StepOutcome) (action : StepActions → Bool) : Bool :=
  match o with
  | .fired _ actions _ => action actions
  | .none | .restart | .counted => false

/-- Whether the final step fired. -/
def StepOutcome.finished (o : StepOutcome) : Bool :=
  match o with
  | .fired _ _ last => last
  | .none | .restart | .counted => false

end Sys2Proof.Machine
end

