-- ==== Sys2Proof/Machine/Flags.lean ====
section
/-! DEFINITION. The event flag unit: setting and clearing flags, the level conditions, the flags as observed, the
cause code and the ALERT output (chapter 9). -/

namespace Sys2Proof.Machine

/-- The number of a flag, which is its priority for the cause code (Table 9-1). -/
def Flag.number : Flag → Nat
  | .lockdown => 1
  | .overflow => 2
  | .violation => 3
  | .linkError => 4
  | .stallTimeout => 5
  | .traceLoss => 6
  | .seqAlert => 7
  | .seqDone => 8
  | .traceHalf => 9
  | .commitDone => 10
  | .lockBroken => 11
  | .downstreamError => 12

/-- The bit of a flag in a flag set (R185). -/
def Flag.mask (f : Flag) : FlagSet :=
  1#16 <<< f.number

/-- A flag set names a number outside 1 to 12: bit 0, 13, 14 or 15 is set (Table 11-6). -/
def namesNoFlag (set : FlagSet) : Bool :=
  (set &&& 0xE001#16) != 0#16

/-- An owning block hands on an event: the flag is set, whatever the enables hold (R150, R152). -/
def State.raise (s : State) (f : Flag) : State :=
  { s with flags := { s.flags with events := s.flags.events ||| f.mask } }

/-- An event handed on where a condition holds. -/
def State.raiseIf (s : State) (c : Bool) (f : Flag) : State :=
  if c then s.raise f else s

/-- The level flags as their conditions make them (R151). -/
def State.levels (s : State) : FlagSet :=
  (if s.guardUnit.lockdown then Flag.lockdown.mask else 0#16) |||
    (if s.link.state = .fault then Flag.linkError.mask else 0#16)

/-- The twelve flags as observed: event flags as held, level flags as their conditions (R151, R159). -/
def State.flagWord (s : State) : FlagSet :=
  s.flags.events ||| s.levels

/-- Whether a flag is set, as observed. -/
def State.flagSet (s : State) (f : Flag) : Bool :=
  s.flagWord.getLsbD f.number

/-- The flags 1 to 12 both set and enabled. -/
def State.alerting (s : State) : FlagSet :=
  s.flagWord &&& s.flags.enables &&& 0x1FFE#16

/-- The lowest number from `n` on, `fuel` numbers at most, whose bit is set; 0 when there is none. -/
def lowestFlag (set : FlagSet) : Nat → Nat → Nat
  | _, 0 => 0
  | n, fuel + 1 => if set.getLsbD n then n else lowestFlag set (n + 1) fuel

/-- The cause code: the number of the set, enabled flag with the lowest number, or 0 (R158). -/
def State.causeCode (s : State) : Nat :=
  lowestFlag s.alerting 1 12

/-- The ALERT output: asserted while at least one flag is both set and enabled (R157). -/
def State.alert (s : State) : Bool :=
  s.alerting != 0#16

end Sys2Proof.Machine
end

