-- ==== Sys2Proof/Machine/Region.lean ====
section
/-! DEFINITION. The region table: matching and the deciding entry (R24, R25), the tests of COMMIT_REGION against
the table (R30), and the installation of the table's commands (R31, R33, R34). -/

namespace Sys2Proof.Machine

/-- Whether a slot's entry matches a transaction (R24). -/
def RegionSlot.matchesRequest (x : RegionSlot) (r : Request) : Bool :=
  x.valid && decide (x.image.base ≤ granuleOf r.address) && decide (granuleOf r.address ≤ x.image.limit)
    && x.image.initiators.getLsbD r.initiator.toNat

/-- Among the slots listed, the matching one with the lowest priority number. -/
def RegionTable.lowestMatch (t : RegionTable) (r : Request) : List (Fin 16) → Option (Fin 16)
  | [] => none
  | i :: rest =>
    match t.lowestMatch r rest with
    | none => if (t.slots.get i).matchesRequest r then some i else none
    | some j =>
      if (t.slots.get i).matchesRequest r && decide ((t.slots.get i).image.priority ≤ (t.slots.get j).image.priority)
      then some i else some j

/-- The slot of the deciding entry, if any entry matches (R25). -/
def RegionTable.deciding (t : RegionTable) (r : Request) : Option (Fin 16) :=
  t.lowestMatch r (List.finRange 16)

/-- The matched field and the attributes of the deciding record (R25, R27). -/
def RegionTable.decidingRecord (t : RegionTable) (r : Request) : Matched × Attributes :=
  match t.deciding r with
  | some i => (.slot i, (t.slots.get i).image.attributes)
  | none => (.default, t.defaults)

/-- Whether a valid entry in a slot other than the named one has the priority (R30). -/
def RegionTable.priorityHeld (t : RegionTable) (named : Fin 16) (p : BitVec 4) : Bool :=
  (List.finRange 16).any (fun i => i != named && (t.slots.get i).valid && (t.slots.get i).image.priority == p)

/-- Installing a COMMIT_REGION: the image replaces every field of the slot and valid becomes yes (R31). -/
def RegionTable.commit (t : RegionTable) (i : Fin 16) (image : RegionImage) : RegionTable :=
  { t with slots := t.slots.set i.val { valid := true, image := image } i.isLt }

/-- Installing a RETIRE_REGION: valid becomes no, the other fields are kept (R33). -/
def RegionTable.retire (t : RegionTable) (i : Fin 16) : RegionTable :=
  { t with slots := t.slots.set i.val { valid := false, image := (t.slots.get i).image } i.isLt }

end Sys2Proof.Machine
end

