-- ==== Sys2Proof/Machine/Guard.lean ====
section
/-! DEFINITION. The tests at acceptance (R3, R4), the rights check (R49), the classification of a request
(R43 to R47), the result of a transaction the part answers itself (R51, R52), and the violation handed on (R53). -/

namespace Sys2Proof

/-- The well-formedness test on alignment and kind (R3). -/
def Request.malformed (r : Request) : Option Machine.Reason :=
  if r.address.toNat % r.size.length ≠ 0 then some .malformedAlign
  else if (r.kind = .fetch ∧ r.direction = .write) ∨ (r.lock ∧ (r.size.isBurst ∨ r.kind = .fetch)) then
    some .malformedKind
  else none

end Sys2Proof

namespace Sys2Proof.Machine

/-- The matching locked write of an open lock (R4). -/
def Lock.matchedBy (l : Lock) (r : Request) : Bool :=
  r.malformed.isNone && r.lock && r.direction == .write && r.kind == .data && r.initiator == l.initiator
    && r.address == l.address && r.size == l.size

/-- The malformed reason the tracker finds, against the lock state before the request (R3, R4). -/
def malformedReason (lock : Option Lock) (r : Request) : Option Reason :=
  match r.malformed with
  | some reason => some reason
  | none =>
    if r.lock then
      match lock with
      | none => if r.direction = .write then some .lockSequence else none
      | some l => if l.matchedBy r then none else some .lockSequence
    else none

/-- The rights of an attribute record for a privilege. -/
def Attributes.rights (a : Attributes) : Privilege → Rights
  | .user => a.userRights
  | .supervisor => a.supervisorRights

/-- The fetch permission of an attribute record for a privilege. -/
def Attributes.fetch (a : Attributes) : Privilege → Bool
  | .user => a.userFetch
  | .supervisor => a.supervisorFetch

/-- The rights check (Table 3-4): the reason of a denial, or none. -/
def Attributes.check (a : Attributes) (r : Request) : Option Reason :=
  match r.kind, r.direction with
  | .fetch, _ => if a.fetch r.privilege then none else some .fetchDenied
  | .data, .read =>
    if r.lock then if a.rights r.privilege = .readWrite then none else some .lockedWriteDenied
    else if a.rights r.privilege = .none then some .readDenied else none
  | .data, .write => if a.rights r.privilege = .readWrite then none else some .writeDenied

/-- Whether a reason is unconditional (Table 3-1). -/
def Reason.unconditional : Reason → Bool
  | .malformedAlign | .malformedKind | .lockSequence | .lockdownWrite => true
  | .readDenied | .writeDenied | .fetchDenied | .lockedWriteDenied => false

/-- The reason of a request under MONITOR and ENFORCE: the first test of Table 3-1 that applies (R45). -/
def GuardUnit.reason (g : GuardUnit) (a : Attributes) (malformed : Option Reason) (r : Request) : Option Reason :=
  match malformed with
  | some reason => some reason
  | none =>
    if g.mode = .enforce ∧ g.lockdown ∧ r.direction = .write then some .lockdownWrite
    else a.check r

/-- The action for a violation in ENFORCE (Table 3-2). -/
def enforceAction (a : Attributes) : Reason → Action
  | .readDenied | .writeDenied | .lockedWriteDenied =>
    match a.denyAction with
    | .refuse => .refuse
    | .absorb => .absorb
  | .fetchDenied | .malformedAlign | .malformedKind | .lockSequence | .lockdownWrite => .refuse

/-- The action of a request under MONITOR and ENFORCE (R46, R47). -/
def GuardUnit.action (g : GuardUnit) (a : Attributes) : Option Reason → Action
  | none => .pass
  | some reason =>
    match g.mode with
    | .enforce => enforceAction a reason
    | .monitor | .bypass => .passedMonitor

/-- The verdict of BYPASS mode (R44). -/
def bypassVerdict : Verdict :=
  { matched := .none, action := .bypass, reason := none, traceClass := 0#2 }

/-- The verdict of an accepted request (R43 to R47). -/
def State.classify (s : State) (malformed : Option Reason) (r : Request) : Verdict :=
  match s.guardUnit.mode with
  | .bypass => bypassVerdict
  | .monitor | .enforce =>
    let decided := s.table.decidingRecord r
    let reason := s.guardUnit.reason decided.2 malformed r
    { matched := decided.1
      action := s.guardUnit.action decided.2 reason
      reason := reason
      traceClass := decided.2.traceClass }

/-- Whether the violation list takes the violation of a verdict (R53). -/
def State.takes (s : State) (v : Verdict) (r : Request) : Bool :=
  match v.reason with
  | none => false
  | some reason => reason.unconditional || (s.table.decidingRecord r).2.log

/-- The verdict of the matching locked write of an absorbed lock, out of LOCKDOWN (R12). -/
def Lock.absorbedVerdict (l : Lock) : Verdict :=
  { matched := l.matched, action := .absorb, reason := none, traceClass := l.traceClass }

/-- Whether an action forwards the transaction (R9). -/
def Action.forwards : Action → Bool
  | .pass | .passedMonitor | .bypass => true
  | .refuse | .absorb => false

/-- The fill pattern in a beat of an absorbed read (Table 3-5). -/
def fillBeat (fill : BitVec 32) (s : Size) : Beat :=
  lowBytes s (fill ++ fill)

/-- The result a transaction has from its acceptance: none where it is forwarded, ERROR where it is refused, OKAY
where it is absorbed, a READ with the fill pattern in each beat (R9, R51, R52). -/
def resultAtAcceptance (fill : BitVec 32) (v : Verdict) (r : Request) : Option Result :=
  match v.action with
  | .pass | .passedMonitor | .bypass => none
  | .refuse => some { status := .error, data := [] }
  | .absorb =>
    some
      { status := .okay
        data := match r.direction with
          | .read => List.replicate r.size.beats (fillBeat fill r.size)
          | .write => [] }

/-- The action taken that a violation carries (R53). PASS and BYPASS carry no violation. -/
def Action.taken : Action → ActionTaken
  | .refuse => .refused
  | .absorb => .absorbed
  | .passedMonitor | .pass | .bypass => .passedMonitor

/-- The violation of a transaction, as a record with repeat count 1 (R53, R62). -/
def violationOf (ordinal : Ordinal) (r : Request) (v : Verdict) (reason : Reason) : Violation :=
  { first := ordinal
    last := ordinal
    address := r.address
    size := r.size
    direction := r.direction
    kind := r.kind
    privilege := r.privilege
    initiator := r.initiator
    matched := v.matched
    reason := reason
    actionTaken := v.action.taken
    count := 1#8 }

end Sys2Proof.Machine
end

