-- ==== Sys2Proof/Machine/Violations.lean ====
section
/-! DEFINITION. The violation list: coalescing, appending, overflow and escalation (R63 to R68), and
acknowledgement (R71, R72). -/

namespace Sys2Proof.Machine

/-- How many records the list holds at most (R61). -/
def violationCapacity : Nat := 8

/-- Whether a violation can be joined to a record (R64). -/
def Violation.joins (v newest : Violation) : Bool :=
  v.initiator == newest.initiator && granuleOf v.address == granuleOf newest.address
    && v.direction == newest.direction && v.reason == newest.reason && decide (newest.count < 255#8)

/-- A record with a further occurrence joined (R64). -/
def Violation.joined (newest v : Violation) : Violation :=
  { newest with last := v.last, count := newest.count + 1#8 }

/-- A 16-bit counter that stops at 65535, after `n` more. -/
def saturatingAdd (c : BitVec 16) (n : Nat) : BitVec 16 :=
  BitVec.ofNat 16 (min (c.toNat + n) 65535)

/-- Whether a violation can be joined to the newest record of the list (R64). -/
def ViolationList.canJoin (l : ViolationList) (v : Violation) : Bool :=
  match l.records.getLast? with
  | none => false
  | some newest => v.joins newest

/-- The list after joining a violation to its newest record (R64). -/
def ViolationList.join (l : ViolationList) (v : Violation) : ViolationList :=
  match l.records.getLast? with
  | none => l
  | some newest => { l with records := l.records.dropLast ++ [newest.joined v] }

/-- The list deals with a violation: joined, appended or overflowed (R63). -/
def State.takeViolation (s : State) (v : Violation) : State :=
  if s.violations.canJoin v then
    ({ s with violations := s.violations.join v }).raise .violation
  else if s.violations.records.length < violationCapacity then
    ({ s with violations := { s.violations with records := s.violations.records ++ [v] } }).raise .violation
  else
    let counted :=
      ({ s with violations :=
          { s.violations with overflow := saturatingAdd s.violations.overflow 1 } }).raise .overflow
    if s.guardUnit.mode = .enforce ∧ s.guardUnit.escalate ∧ ¬ s.guardUnit.lockdown then
      { counted with guardUnit := { s.guardUnit with lockdown := true } }
    else counted

/-- The list after an acknowledgement of `n` records (R71, R72). -/
def ViolationList.acknowledge (l : ViolationList) (n : Nat) : ViolationList :=
  { records := l.records.drop n
    overflow := if (l.records.drop n).isEmpty then 0#16 else l.overflow }

end Sys2Proof.Machine
end

