-- ==== Sys2Proof/Machine/Capturing.lean ====
section
/-! DEFINITION. The capture unit: the records of a transaction (R109 to R111), the slot accounting (R115 to
R118), storing and dropping (R121, R125, R126), and the judgment of a ready head (R120). -/

namespace Sys2Proof.Machine

/-- How many slots the trace buffer has (R112). -/
def bufferSlots : Nat := 64

/-- The reserved count, 0 or 2 (R115). -/
def Capture.reservedCount (c : Capture) : Nat :=
  if c.reserved then 2 else 0

/-- The free space (R115). -/
def Capture.free (c : Capture) : Nat :=
  bufferSlots - c.buffer.length - c.reservedCount

/-- Whether a transaction is eligible for capture under a step outcome (R109, Table 6-3). -/
def Capture.eligible (c : Capture) (o : StepOutcome) : Bool :=
  match c.mode with
  | .always => true
  | .off => false
  | .sequenced => c.on || o.has (·.captureOn)

/-- The capture state after a completion under a step outcome (R108, Table 6-3). -/
def Capture.onAfter (c : Capture) (o : StepOutcome) : Bool :=
  match c.mode with
  | .always | .off => c.on
  | .sequenced => if o.has (·.captureOn) then true else if o.has (·.captureOff) then false else c.on

/-- Whether a transaction is captured (R109). -/
def Capture.captures (c : Capture) (m : ComparatorSet) (o : StepOutcome) : Bool :=
  c.eligible o && (c.filter == 0#4 || (c.filter &&& m) != 0#4)

/-- Whether the data capture for a direction is on (R110). -/
def Capture.dataCapture (c : Capture) : Direction → Bool
  | .read => c.readData
  | .write => c.writeData

/-- The status of the upstream response of an entry (R2). -/
def Entry.status (e : Entry) : BusStatus :=
  match e.result with
  | none => .error
  | some result => result.status

/-- The ADDRESS record of a transaction (Table 7-2). -/
def Entry.addressRecord (e : Entry) : RecordBody :=
  .address e.ordinal e.request.address e.request.size e.request.direction e.request.kind e.request.privilege
    e.request.initiator e.request.lock e.verdict e.status

/-- A transaction's own records (R110): none where it is not captured. -/
def Capture.ownRecords (c : Capture) (e : Entry) (m : ComparatorSet) (o : StepOutcome) : List RecordBody :=
  if c.captures m o then
    e.addressRecord ::
      (match e.dataSeen with
        | none => []
        | some value =>
          if c.dataCapture e.request.direction then
            [.data e.ordinal e.request.direction e.request.size value]
          else [])
  else []

/-- The MARK of a transaction that fires a step carrying MARK (R103). -/
def markRecords (e : Entry) (o : StepOutcome) : List RecordBody :=
  match o with
  | .fired k actions last => if actions.mark then [.mark e.ordinal k last] else []
  | .none | .restart | .counted => []

/-- The cases of Table 7-3. -/
inductive PairCase where
  | plain
  | opening
  | closingReserved
  | closingDropped
  deriving DecidableEq, Repr

/-- The case a completing transaction falls under (R116 to R118, R15). -/
def pairCase (lock : Option Lock) (c : Capture) (e : Entry) : PairCase :=
  match e.role with
  | .none => .plain
  | .openingRead => if lock.isSome then .opening else .plain
  | .closingWrite dropped => if dropped then .closingDropped else if c.reserved then .closingReserved else .plain

/-- 1 where the loss counter is non-zero, else 0. -/
def lossSlot (loss : BitVec 16) : Nat :=
  if loss = 0 then 0 else 1

/-- The needed count (Table 7-3), of `t` records of the transaction's own and `m` MARK records. -/
def Capture.needed (c : Capture) (x : PairCase) (t m : Nat) : Nat :=
  match x with
  | .plain => if t + m = 0 then 0 else t + m + lossSlot c.loss
  | .opening => t + m + lossSlot c.loss + 2
  | .closingReserved => t + m
  | .closingDropped => if m = 0 then 0 else m + lossSlot (saturatingAdd c.loss t)

/-- The free space the needed count is measured against (Table 7-3). -/
def Capture.space (c : Capture) (x : PairCase) : Nat :=
  match x with
  | .plain | .opening | .closingDropped => c.free
  | .closingReserved => bufferSlots - c.buffer.length

/-- Storing records at the tail, each with the next sequence number (R112, R113). -/
def Capture.store : List RecordBody → Capture → Capture
  | [], c => c
  | body :: rest, c =>
    Capture.store rest
      { c with buffer := c.buffer ++ [{ sequence := c.sequence, body := body }], sequence := c.sequence + 1#16 }

/-- Storing records behind a LOSS record, if the loss counter is non-zero (R126). -/
def Capture.storeWithLoss (bodies : List RecordBody) (c : Capture) : Capture :=
  if c.loss = 0 then c.store bodies
  else { c.store (.loss c.loss :: bodies) with loss := 0#16 }

/-- Dropping `n` records: each adds 1 to the loss counter (R125). -/
def Capture.drop (n : Nat) (c : Capture) : Capture :=
  { c with loss := saturatingAdd c.loss n }

/-- What completing a transaction needs and gives, worked out without changing any state (R120). -/
structure Judgment where
  answers : ComparatorSet
  sequencer : SequencerState
  outcome : StepOutcome
  own : List RecordBody
  mark : List RecordBody
  pair : PairCase
  fits : Bool
  deriving DecidableEq, Repr

/-- The judgment of a ready head under the state in force (R120). -/
def State.judgment (s : State) (e : Entry) : Judgment :=
  let m := matchSet s.comparators e
  let stepped := s.sequencer.step m
  let own := s.capture.ownRecords e m stepped.2
  let mark := markRecords e stepped.2
  let pair := pairCase s.tracker.lock s.capture e
  let needed := s.capture.needed pair own.length mark.length
  { answers := m
    sequencer := stepped.1
    outcome := stepped.2
    own := own
    mark := mark
    pair := pair
    fits := needed == 0 || decide (needed ≤ s.capture.space pair) }

/-- The buffer, the reservation and the loss counter after item 1 of step 4, for a transaction that fits
(R116 to R118). -/
def Capture.fitting (c : Capture) (x : PairCase) (own mark : List RecordBody) : Capture :=
  match x with
  | .plain => if own ++ mark = [] then c else c.storeWithLoss (own ++ mark)
  | .opening => { c.storeWithLoss (own ++ mark) with reserved := true }
  | .closingReserved => { c.store (own ++ mark) with reserved := false }
  | .closingDropped =>
    if mark = [] then c.drop own.length else (c.drop own.length).storeWithLoss mark

/-- The same for a transaction that is short and is completed anyway (R116 to R118). -/
def Capture.short (c : Capture) (x : PairCase) (own mark : List RecordBody) : Capture :=
  match x with
  | .plain | .opening | .closingDropped => c.drop (own.length + mark.length)
  | .closingReserved => { (c.store own).drop mark.length with reserved := false }

/-- How many records a completion drops (R116 to R118). -/
def droppedCount (x : PairCase) (fits : Bool) (own mark : List RecordBody) : Nat :=
  match x with
  | .plain | .opening => if fits then 0 else own.length + mark.length
  | .closingReserved => if fits then 0 else mark.length
  | .closingDropped => if fits then own.length else own.length + mark.length

/-- The TRACE_LOSS event: a completion raises the loss counter from 0 (R125). -/
def Capture.lossBegins (c : Capture) (j : Judgment) (fits : Bool) : Bool :=
  c.loss == 0#16 && droppedCount j.pair fits j.own j.mark != 0

/-- The TRACE_HALF event: storing takes the stored count from 31 to 32 (R127). -/
def halfReached (before after : Capture) : Bool :=
  decide (before.buffer.length < 32) && decide (32 ≤ after.buffer.length)

end Sys2Proof.Machine
end

