-- ==== Sys2Proof/Machine/Formats.lean ====
section
/-! DEFINITION. What is written outside: record payloads and trace-link frames with their CRC-16 (R138, R139,
R190), response frames (R186) and the result bytes of each command (R189). -/

namespace Sys2Proof.Machine

/-! ## Records and trace-link frames -/

/-- The number of payload bytes and the payload after the sequence number (Table 11-8). -/
def RecordBody.payload : RecordBody → List Byte
  | .address ordinal addr size direction kind privilege initiator lock verdict status =>
    bytesBE 4 ordinal.toNat ++ bytesBE 5 addr.toNat
      ++ [codeOfSize size,
          bitOfDirection direction ++ bitOfKind kind ++ bitOfPrivilege privilege ++ BitVec.ofBool lock ++ 0#1
            ++ initiator,
          codeOfAction verdict.action, codeOfMatched verdict.matched,
          match verdict.reason with
            | none => 0x00#8
            | some reason => codeOfReason reason,
          bitOfStatus status ++ 0#5 ++ verdict.traceClass]
  | .data ordinal direction size value =>
    bytesBE 4 ordinal.toNat ++ [bitOfDirection direction ++ 0#7] ++ bytesBE size.beatBytes value.toNat
  | .mark ordinal step last =>
    bytesBE 4 ordinal.toNat ++ [BitVec.ofBool last ++ 0#5 ++ BitVec.ofNat 2 step.val]
  | .loss count => bytesBE 2 count.toNat

/-- The code of a record's kind (Table 11-1). -/
def RecordBody.kindCode : RecordBody → BitVec 2
  | .address .. => 0
  | .data .. => 1
  | .mark .. => 2
  | .loss .. => 3

/-- The payload of a record (Table 11-8). -/
def Record.payload (r : Record) : List Byte :=
  bytesBE 2 r.sequence.toNat ++ r.body.payload

/-- The kind-and-length byte of a record (R190). -/
def Record.kindAndLength (r : Record) : Byte :=
  r.body.kindCode ++ BitVec.ofNat 6 r.payload.length

/-- One shift of the CRC-16 register: generator polynomial x^16 + x^12 + x^5 + 1. -/
def crc16Shift (c : BitVec 16) : BitVec 16 :=
  if c.msb then (c <<< 1) ^^^ 0x1021#16 else c <<< 1

/-- The CRC-16 register after one byte, taken most significant bit first. -/
def crc16Byte (c : BitVec 16) (b : Byte) : BitVec 16 :=
  Nat.repeat crc16Shift 8 (c ^^^ (b ++ 0#8))

/-- The CRC-16 register after a string of bytes, from FFFFh (R139). -/
def crc16 (bytes : List Byte) : BitVec 16 :=
  bytes.foldl crc16Byte 0xFFFF#16

/-- The content of the frame of a record (R138, R190). -/
def Record.frame (r : Record) : List Byte :=
  let checked := r.kindAndLength :: r.payload
  0x5C#8 :: (checked ++ bytesBE 2 (crc16 checked).toNat)

/-! ## Responses -/

/-- The bytes of a response frame (R186). -/
def Response.bytes (r : Response) : List Byte :=
  let body := codeOfStatus r.status :: (r.tag ++ 0#4) :: r.code :: r.result
  body ++ [crc8 body]

/-- The bits shifted out on MDO during a frame of `n` bits: the held response, then 00h bytes (R163). -/
def Response.shiftedOut (r : Response) (n : Nat) : List Bool :=
  (bitsOfBytes r.bytes ++ List.replicate n false).take n

/-- A string of bytes followed by 00h up to a length. -/
def padTo (n : Nat) (bytes : List Byte) : List Byte :=
  bytes ++ List.replicate (n - bytes.length) 0x00#8

/-! ## Result bytes (Table 11-7) -/

/-- READ_REGION of a slot. -/
def slotResult (x : RegionSlot) : List Byte :=
  codeOfYesNo x.valid :: bytesOfRegion (argsOfRegion x.image)

/-- READ_REGION of the staging record; EMPTY reads as the cleared image (Table 2-3). -/
def stagingResult (staging : Option RegionImage) : List Byte :=
  codeOfYesNo staging.isSome :: bytesOfRegion (argsOfRegion (staging.getD clearedImage))

/-- READ_REGION of the default record. -/
def defaultResult (t : RegionTable) : List Byte :=
  0x00#8 :: (bytesBE 4 t.fill.toNat ++ List.replicate 6 0x00#8 ++ bytesOfAttributes (argsOfAttributes t.defaults))

/-- The lock state byte (Table 11-1). -/
def lockByte (lock : Option Lock) : Byte :=
  match lock with
  | none => 0x00#8
  | some l => BitVec.ofBool l.traceDropped ++ 0#5 ++ (if l.absorbed then 2#2 else 1#2)

/-- READ_GUARD (Table 10-7). -/
def State.guardResult (s : State) : List Byte :=
  [codeOfMode s.guardUnit.mode,
   0#5 ++ BitVec.ofBool (s.guardUnit.strap == .high) ++ BitVec.ofBool s.guardUnit.lockdown
     ++ BitVec.ofBool s.guardUnit.escalate,
   lockByte s.tracker.lock, BitVec.ofNat 8 s.tracker.inFlight.length]
    ++ bytesBE 4 s.tracker.ordinal.toNat ++ [BitVec.ofNat 8 s.violations.records.length]
    ++ bytesBE 2 s.violations.overflow.toNat

/-- The code of a policy command. -/
def PolicyCommand.code : PolicyCommand → Code
  | .commitRegion _ _ => .commitRegion
  | .retireRegion _ => .retireRegion
  | .setDefault _ _ => .setDefault
  | .setMode _ _ => .setMode

/-- The code and the tag of a waiting command. -/
def Waiting.bytes (w : Waiting) : List Byte :=
  [w.command.code.byte, w.tag ++ 0#4]

/-- QUERY_PENDING (Table 10-4). -/
def Port.pendingResult (p : Port) : List Byte :=
  (match p.slot with
    | none => [0x00#8, 0x00#8, 0x00#8]
    | some w => 0x01#8 :: w.bytes)
    ++ [codeOfLastOutcome p.last.outcome, p.last.code, p.last.tag ++ 0#4]

/-- READ_VIOLATION, with the occupancy (Table 4-1). -/
def Violation.result (v : Violation) (occupancy : Nat) : List Byte :=
  bytesBE 4 v.first.toNat ++ bytesBE 4 v.last.toNat ++ bytesBE 5 v.address.toNat
    ++ [codeOfSize v.size,
        bitOfDirection v.direction ++ bitOfKind v.kind ++ bitOfPrivilege v.privilege ++ 0#2 ++ v.initiator,
        codeOfMatched v.matched, codeOfReason v.reason, codeOfActionTaken v.actionTaken, v.count,
        BitVec.ofNat 8 occupancy]

/-- ACK_VIOLATION. -/
def ViolationList.ackResult (l : ViolationList) : List Byte :=
  BitVec.ofNat 8 l.records.length :: bytesBE 2 l.overflow.toNat

/-- READ_COMPARATOR. -/
def Comparator.result (c : Comparator) : List Byte :=
  bytesOfComparator (argsOfComparator c)

/-- READ_SEQUENCER (Table 6-4). -/
def Sequencer.result (q : Sequencer) : List Byte :=
  (match q.state with
    | .disarmed => [0x00#8, 0x00#8, 0x00#8, 0x00#8]
    | .armed k r => [0x01#8, BitVec.ofNat 8 k.val] ++ bytesBE 2 r.toNat
    | .done => [0x02#8, 0x00#8, 0x00#8, 0x00#8])
    ++ q.steps.toList.flatMap (fun x => bytesOfStep (argsOfStep x)) ++ [0#4 ++ q.restart]

/-- READ_CAPTURE (R130). -/
def Capture.result (c : Capture) : List Byte :=
  [codeOfCaptureMode c.mode, codeOfYesNo c.on, 0#4 ++ c.filter, codeOfYesNo c.readData, codeOfYesNo c.writeData,
   codeOfPolicy c.policy]
    ++ bytesBE 2 c.limit.toNat ++ [BitVec.ofNat 8 c.buffer.length, BitVec.ofNat 8 c.reservedCount]
    ++ bytesBE 2 c.loss.toNat ++ bytesBE 2 c.sequence.toNat

/-- READ_TRACE: the record's kind-and-length byte and payload, padded, and the stored count left. -/
def Record.result (r : Record) (left : Nat) : List Byte :=
  r.kindAndLength :: (padTo 17 r.payload ++ [BitVec.ofNat 8 left])

/-- READ_FLAGS. -/
def State.flagsResult (s : State) : List Byte :=
  bytesBE 2 s.flagWord.toNat ++ bytesBE 2 s.flags.enables.toNat ++ [BitVec.ofNat 8 s.causeCode]

/-- CLEAR_FLAGS. -/
def State.clearResult (s : State) : List Byte :=
  bytesBE 2 s.flagWord.toNat ++ [BitVec.ofNat 8 s.causeCode]

/-- SET_ALERT_ENABLE. -/
def State.enableResult (s : State) : List Byte :=
  bytesBE 2 s.flags.enables.toNat ++ [BitVec.ofNat 8 s.causeCode]

end Sys2Proof.Machine
end

