-- ==== Sys2Proof/Machine/Linking.lean ====
section
/-! DEFINITION. The trace link: the start of a frame (R137), its end (R140), its progress and its cut (R134, R144). -/

namespace Sys2Proof.Machine

/-- A frame starts where the link is RUNNING and IDLE with a stored record and a credit (R137). -/
def State.startFrame (s : State) : State :=
  match s.link.state, s.link.frame, s.capture.buffer with
  | .running, none, head :: _ =>
    if 0 < s.link.credit then
      { s with
        link := { s.link with
          credit := s.link.credit - 1
          frame := some { content := head.frame, position := 0 } }
        capture := { s.capture with inTransmission := true } }
    else s
  | _, _, _ => s

/-- A frame goes on by a free number of bytes, its last byte left to the frame end (R134, R144; log entry 6). -/
def Sending.progress (f : Sending) (free : Nat) : Sending :=
  { f with position := f.position + free % (f.content.length - f.position) }

/-- The frame in transmission, if any, has gone on since the model last looked (log entry 6). -/
def State.progressFrame (s : State) : State :=
  match s.link.frame with
  | none => s
  | some f =>
    { s with
      link := { s.link with frame := some (f.progress (Config.bytesSent s.freeCount)) }
      freeCount := s.freeCount + 1 }

/-- The frame in transmission, if any, stops at the byte the link has reached; its record is no longer in
transmission (R144). -/
def State.cutFrame (s : State) : State :=
  match s.link.frame with
  | none => s
  | some f =>
    let cut := f.progress (Config.bytesSent s.freeCount)
    { s with
      link := { s.link with frame := none }
      capture := { s.capture with inTransmission := false }
      tld := cut.content.take cut.position :: s.tld
      freeCount := s.freeCount + 1 }

/-- A frame ends: it has been sent whole; the record in transmission is removed if it is still held; the next frame
may start (R140). -/
def State.endFrame (s : State) (f : Sending) : State :=
  State.startFrame
    { s with
      link := { s.link with frame := none }
      capture := { s.capture with
        buffer := if s.capture.inTransmission then s.capture.buffer.tail else s.capture.buffer
        inTransmission := false }
      tld := f.content :: s.tld }

end Sys2Proof.Machine
end

