-- ==== Sys2Proof/Machine/Policy.lean ====
section
/-! DEFINITION. The maintenance port: taking a frame (R163), answering (R167, R170), and the pending slot of policy
commands (R174 to R176). -/

namespace Sys2Proof.Machine

/-- A frame of `n` bits is taken at the rise of MCS: the held response, or as much of it as `n` bits carry, has
been shifted out, and the receiver is idle again (R163, R164). -/
def State.takeBits (s : State) (n : Nat) : State :=
  { s with
    port := { s.port with receiver := [] }
    mdo := s.port.held.shiftedOut n :: s.mdo }

/-- The frame of a command is taken. -/
def State.takeFrame (s : State) (code : Code) : State :=
  s.takeBits (8 * code.frameLength)

/-- A response replaces the held response (R167). -/
def State.hold (s : State) (response : Response) : State :=
  { s with port := { s.port with held := response } }

/-- The response of a command to its own frame (R167, R186). -/
def State.answer (s : State) (code : Code) (tag : Tag) (status : Status) (result : List Byte) : State :=
  s.hold { status := status, tag := tag, code := code.byte, result := result }

/-- A command is answered REFUSED with its reason (R170, R186). -/
def State.refuse (s : State) (code : Code) (tag : Tag) (reason : RefusalReason) : State :=
  s.answer code tag .refused [codeOfRefusal reason]

/-- A policy command is installed in the region table or the guard (R31, R33, R34, R54). In LOCKDOWN a SET_MODE
writes neither mode nor escalate setting (R55, R176). -/
def State.install (s : State) : PolicyCommand → State
  | .commitRegion slot image => { s with table := s.table.commit slot image }
  | .retireRegion slot => { s with table := s.table.retire slot }
  | .setDefault attributes fill => { s with table := { s.table with defaults := attributes, fill := fill } }
  | .setMode mode escalate =>
    if s.guardUnit.lockdown then s
    else { s with guardUnit := { s.guardUnit with mode := mode, escalate := escalate } }

/-- The waiting command, if one waits, is installed at a close, a break or a bus reset (R36, R55, R176). -/
def State.installPending (s : State) : State :=
  match s.port.slot with
  | none => s
  | some w =>
    let installed := (s.install w.command).raise .commitDone
    { installed with
      port := { installed.port with
        slot := none
        last := { outcome := .installed, code := w.command.code.byte, tag := w.tag } } }

/-- A policy command: BUSY while another waits, else REFUSED by its owning rule, else PENDING while a lock is open,
else installed and answered OK (R170, R175). -/
def State.takePolicy (s : State) (code : Code) (tag : Tag) (tested : Except RefusalReason PolicyCommand) : State :=
  match s.port.slot with
  | some w => s.answer code tag .busy w.bytes
  | none =>
    match tested with
    | .error reason => s.refuse code tag reason
    | .ok command =>
      if s.tracker.lock.isSome then
        State.answer
          { s with port := { s.port with slot := some { tag := tag, command := command } } } code tag .pending []
      else (s.install command).answer code tag .ok []

/-- The tests of COMMIT_REGION (Table 2-2). -/
def State.testCommit (s : State) (slot : BitVec 8) : Except RefusalReason PolicyCommand :=
  if s.guardUnit.lockdown then .error .lockedDown
  else
    match slotOfByte slot with
    | none => .error .badSlot
    | some i =>
      match s.table.staging with
      | none => .error .noStage
      | some image =>
        if image.limit < image.base then .error .badRange
        else if image.initiators = 0#8 then .error .emptyInitiators
        else if s.table.priorityHeld i image.priority then .error .priorityConflict
        else .ok (.commitRegion i image)

/-- The tests of RETIRE_REGION (R33). -/
def State.testRetire (s : State) (slot : BitVec 8) : Except RefusalReason PolicyCommand :=
  if s.guardUnit.lockdown then .error .lockedDown
  else
    match slotOfByte slot with
    | none => .error .badSlot
    | some i => .ok (.retireRegion i)

/-- The tests of SET_DEFAULT (R34). -/
def State.testDefault (s : State) (attributes : AttributeArgs) (fill : BitVec 32) :
    Except RefusalReason PolicyCommand :=
  if s.guardUnit.lockdown then .error .lockedDown
  else
    match attributesOfArgs attributes with
    | none => .error .badArgument
    | some a => .ok (.setDefault a fill)

/-- The tests of SET_MODE (R54). -/
def State.testMode (s : State) (mode escalate : BitVec 8) : Except RefusalReason PolicyCommand :=
  if s.guardUnit.lockdown then .error .lockedDown
  else
    match modeOfCode mode, yesNoOfCode escalate with
    | some m, some e => .ok (.setMode m e)
    | _, _ => .error .badArgument

end Sys2Proof.Machine
end

