-- ==== Sys2Proof/Machine/Ops.lean ====
section
/-! DEFINITION. The operations that reach several blocks: completion (R18), the judgment of the head and the stall
wait (R16, R17, R122 to R124), the end of a lock (R12 to R14), acceptance (R7, R8), MAINT_RESET (R181), and what the
part does of its own on an empty queue. -/

namespace Sys2Proof.Machine

/-! ## Completion -/

/-- The head, if its result is present (R16). -/
def State.readyHead (s : State) : Option Entry :=
  match s.tracker.inFlight with
  | [] => none
  | e :: _ => if e.result.isSome then some e else none

/-- The upstream response of a transaction at its completion (R2). -/
def Entry.response (e : Entry) : UpstreamResponse :=
  { ordinal := e.ordinal
    status := e.status
    data :=
      match e.result with
      | none => []
      | some result => result.data }

/-- The lock at the completion of an opening read: the hold ends, and the trace-dropped marking is set where the
read was short (R15, R117). -/
def lockAfter (lock : Option Lock) (x : PairCase) (fits : Bool) : Option Lock :=
  match x with
  | .opening =>
    lock.map (fun l => { l with outstanding := false, traceDropped := l.traceDropped || !fits })
  | .plain | .closingReserved | .closingDropped => lock

/-- The capture unit after step 4 of a completion (R121). -/
def Capture.complete (c : Capture) (j : Judgment) (fits : Bool) : Capture :=
  let stored := if fits then c.fitting j.pair j.own j.mark else c.short j.pair j.own j.mark
  { stored with on := c.onAfter j.outcome }

/-- Whether a transaction was forwarded and its downstream status was ERROR (R18). -/
def Entry.downstreamError (e : Entry) : Bool :=
  e.forwarded && e.status == .error

/-- The head becomes the stall wait's head: a ready head that is short under STALL begins to wait, with a count
of 0 (R16, R17, R192). A ready head that is not short completes at its own happening (log entry 2). -/
def State.judgeNewHead (s : State) : State :=
  match s.readyHead with
  | none => s
  | some e =>
    if (s.judgment e).fits || s.capture.policy == .drop then s
    else { s with tracker := { s.tracker with stall := some 0 } }

/-- Steps 1 to 5 of a completion and the removal of the head (R18), for a transaction that fits or is treated as
short. -/
def State.completeHead (s : State) (e : Entry) (fits timeout : Bool) : State :=
  let j := s.judgment e
  let after := s.capture.complete j fits
  let done : State :=
    { s with
      tracker := { s.tracker with
        inFlight := s.tracker.inFlight.tail
        lock := lockAfter s.tracker.lock j.pair fits
        stall := none }
      sequencer := { s.sequencer with state := j.sequencer }
      capture := after
      upstream := e.response :: s.upstream }
  let flagged :=
    (((((done.raiseIf e.downstreamError .downstreamError).raiseIf (j.outcome.has (·.alert)) .seqAlert).raiseIf
      j.outcome.finished .seqDone).raiseIf (s.capture.lossBegins j fits) .traceLoss).raiseIf
      (halfReached s.capture after) .traceHalf).raiseIf timeout .stallTimeout
  flagged.startFrame

/-- Completion of the head; the next entry becomes the head (R18). -/
def State.complete (s : State) (e : Entry) (fits timeout : Bool) : State :=
  (s.completeHead e fits timeout).judgeNewHead

/-- The judgment of a ready head: it completes, or it begins or goes on with its stall wait (R17, R120). -/
def State.judgeHead (s : State) : State :=
  match s.readyHead with
  | none => s
  | some e =>
    if (s.judgment e).fits then s.complete e true false
    else
      match s.capture.policy with
      | .drop => s.complete e false false
      | .stall => { s with tracker := { s.tracker with stall := some (s.tracker.stall.getD 0) } }

/-- After a happening that may change the answer, the head is judged again if it is in a stall wait (R17, R122). -/
def State.rejudge (s : State) : State :=
  if s.tracker.stall.isSome then s.judgeHead else s

/-- The stall limit runs out: the waiting head completes, treated as short (R123). -/
def State.timeout (s : State) : State :=
  match s.readyHead with
  | none => s
  | some e => s.complete e false true

/-- Whether the count of a stall wait has reached a non-zero limit (R123, R124, R191). -/
def limitReached (limit : BitVec 16) (count : Nat) : Bool :=
  limit != 0#16 && decide (limit.toNat ≤ count)

/-! ## The end of a lock -/

/-- The matching locked write has its verdict: the lock ends, and a waiting command is installed (R12). -/
def State.closeLock (s : State) : State :=
  State.installPending { s with tracker := { s.tracker with lock := none } }

/-- A mismatched request breaks the lock, in the order of R13. -/
def State.breakLock (s : State) : State :=
  let flagged := s.raise .lockBroken
  State.installPending
    { flagged with
      tracker := { flagged.tracker with lock := none }
      capture := { flagged.capture with reserved := false } }

/-! ## Acceptance -/

/-- How many transactions the in-flight list holds at most (R5). -/
def inFlightCapacity : Nat := 4

/-- The acceptance conditions on a presented request (R7). -/
def State.acceptable (s : State) (r : Request) : Bool :=
  !s.brst &&
    match s.tracker.lock with
    | some l => !l.outstanding
    | none =>
      decide (s.tracker.inFlight.length < inFlightCapacity)
        && (!(r.lock && r.direction == .read) || s.tracker.inFlight.isEmpty)

/-- The lock that a locked READ opens by its verdict (R11). -/
def lockOpenedBy (r : Request) (v : Verdict) : Option Lock :=
  let record : Lock :=
    { absorbed := v.action == .absorb
      initiator := r.initiator
      address := r.address
      size := r.size
      matched := v.matched
      traceClass := v.traceClass
      outstanding := true
      traceDropped := false }
  match v.action with
  | .pass | .passedMonitor | .bypass | .absorb => some record
  | .refuse => none

/-- The verdict of an accepted request, `closes` being the open lock it closes (R12, R43). -/
def State.verdictFor (s : State) (closes : Option Lock) (malformed : Option Reason) (r : Request) : Verdict :=
  match closes with
  | some l => if l.absorbed && !s.guardUnit.lockdown then l.absorbedVerdict else s.classify malformed r
  | none => s.classify malformed r

/-- The guard hands the violation of a verdict, if it is to be recorded, to the violation list (R53). -/
def State.handOn (s : State) (ordinal : Ordinal) (r : Request) (v : Verdict) : State :=
  match v.reason with
  | none => s
  | some reason => if s.takes v r then s.takeViolation (violationOf ordinal r v reason) else s

/-- The entry's role, and the state after the lock closes or opens (steps 5 and 6 of R8). -/
def State.settleLock (s : State) (closes : Option Lock) (opens : Bool) (r : Request) (v : Verdict) :
    State × LockRole :=
  match closes with
  | some l => (s.closeLock, .closingWrite l.traceDropped)
  | none =>
    if opens then
      match lockOpenedBy r v with
      | some record => ({ s with tracker := { s.tracker with lock := some record } }, .openingRead)
      | none => (s, .none)
    else (s, .none)

/-- The request as it is issued downstream (R9). -/
def issuedRequest (r : Request) : IssuedRequest :=
  { address := r.address, size := r.size, direction := r.direction, kind := r.kind, privilege := r.privilege,
    lock := r.lock, data := r.data }

/-- Acceptance of a request, in the order of R8; a request that becomes the head with its result present is judged
(R16). -/
def State.accept (s : State) (r : Request) : State :=
  let ordinal := s.tracker.ordinal
  let malformed := malformedReason s.tracker.lock r
  let closes := s.tracker.lock.filter (fun l => l.matchedBy r)
  let opens := s.tracker.lock.isNone && r.lock && r.direction == .read && malformed.isNone
  let numbered : State :=
    { s with tracker := { s.tracker with presented := none, ordinal := ordinal + 1#32 } }
  let unlocked := if s.tracker.lock.isSome && closes.isNone then numbered.breakLock else numbered
  let verdict := unlocked.verdictFor closes malformed r
  let handed := unlocked.handOn ordinal r verdict
  let settled := handed.settleLock closes opens r verdict
  let entry : Entry :=
    { ordinal := ordinal
      request := r
      verdict := verdict
      forwarded := verdict.action.forwards
      result := resultAtAcceptance unlocked.table.fill verdict r
      role := settled.2 }
  let appended : State :=
    { settled.1 with
      tracker := { settled.1.tracker with inFlight := settled.1.tracker.inFlight ++ [entry] }
      downstream :=
        if verdict.action.forwards then issuedRequest r :: settled.1.downstream else settled.1.downstream }
  if s.tracker.inFlight.isEmpty then appended.judgeNewHead else appended

/-- The presented request is accepted if the acceptance conditions hold; else it waits (R7). -/
def State.acceptPresented (s : State) : State :=
  match s.tracker.presented with
  | none => s
  | some r => if s.acceptable r then s.accept r else s

/-! ## Downstream responses -/

/-- What is stored of a downstream response: data only for a READ answered OKAY (R10). -/
def storedResult (r : Request) (status : BusStatus) (data : List Beat) : Result :=
  { status := status
    data := if r.direction = .read ∧ status = .okay then data else [] }

/-- The in-flight list with a downstream response stored in the oldest forwarded entry whose result is absent
(R10). -/
def storeResponse (status : BusStatus) (data : List Beat) : List Entry → List Entry
  | [] => []
  | e :: rest =>
    if e.forwarded && e.result.isNone then
      { e with result := some (storedResult e.request status data) } :: rest
    else e :: storeResponse status data rest

/-- Whether the head is a forwarded entry whose result is absent. -/
def State.headAwaits (s : State) : Bool :=
  match s.tracker.inFlight with
  | [] => false
  | e :: _ => e.forwarded && e.result.isNone

/-! ## Resets -/

/-- An entry after MAINT_RESET: the trace-dropped marking of a closing write is discarded (R132). -/
def Entry.afterReset (e : Entry) : Entry :=
  match e.role with
  | .closingWrite _ => { e with role := .closingWrite false }
  | .none | .openingRead => e

/-- A waiting command is cancelled by MAINT_RESET (R181). -/
def Port.cancelPending (p : Port) : Port :=
  match p.slot with
  | none => p
  | some w =>
    { p with slot := none, last := { outcome := .cancelled, code := w.command.code.byte, tag := w.tag } }

/-- Every block takes its MAINT_RESET state (R181, step 2), with the link's frame cut short (R144). -/
def State.resetBlocks (s : State) : State :=
  let cut := s.cutFrame
  { cut with
    tracker := { s.tracker with
      inFlight := s.tracker.inFlight.map Entry.afterReset
      lock := none
      stall := none }
    table := resetTable s.guardUnit.strap
    guardUnit := resetGuard s.guardUnit.strap
    violations := resetViolations
    comparators := resetComparators
    sequencer := resetSequencer
    capture := resetCapture
    link := resetLink
    flags := resetFlags }

/-- MAINT_RESET on the blocks: the waiting command is cancelled, the blocks are reset, and a head in a stall wait is
judged again (R19, R181). -/
def State.maintReset (s : State) : State :=
  let reset := { s with port := s.port.cancelPending }.resetBlocks
  if s.tracker.stall.isSome then reset.judgeHead else reset

/-- BRST is asserted (R20, R133, R183). -/
def State.busReset (s : State) : State :=
  let broken : State :=
    { s with
      brst := true
      tracker := { s.tracker with inFlight := [], presented := none, lock := none, stall := none }
      capture := { s.capture with reserved := false } }
  if s.tracker.lock.isSome then broken.installPending else broken

/-! ## The empty queue -/

/-- A microsecond of the reference timer: the stall timer counts, and its limit may run out (R122, R191). -/
def State.tick (s : State) : State :=
  let timed := { s with refTimer := s.refTimer + 1 }.progressFrame
  match s.tracker.stall with
  | none => timed
  | some count =>
    let counted := { timed with tracker := { timed.tracker with stall := some (count + 1) } }
    if limitReached s.capture.limit (count + 1) then counted.timeout else counted

/-- Whether the head's completion is due: it is ready and not in a stall wait (R16, R17). -/
def State.completionDue (s : State) : Bool :=
  s.readyHead.isSome && s.tracker.stall.isNone

/-- Whether the acceptance of the presented request is due (R7). -/
def State.acceptanceDue (s : State) : Bool :=
  match s.tracker.presented with
  | none => false
  | some r => s.acceptable r

/-- What the part does with no command waiting: a completion that is due, else an acceptance that is due, else a
microsecond passes. DESIGN CHOICE, log entry 4. -/
def State.idle (s : State) : State :=
  if s.completionDue then s.judgeHead
  else if s.acceptanceDue then s.acceptPresented
  else s.tick

end Sys2Proof.Machine
end

