-- ==== Sys2Proof/Machine/BusCommands.lean ====
section
/-! DEFINITION. The meanings of the happenings on the memory bus and of the resets that are pins (chapters 1, 7 and
12). A happening that cannot arise in a state changes nothing there: log entry 3. -/

namespace Sys2Proof.Machine

/-- PRESENTED_REQUEST (R7): the request is accepted at once if the acceptance conditions hold, and else waits. The
port holds at most one presented request: log entry 17. -/
def execPresentedRequest (request : Request) (s : State) : Host.Outcome State Fault Refusal :=
  match s.tracker.presented with
  | some _ => .next s
  | none =>
    .next (State.acceptPresented { s with tracker := { s.tracker with presented := some request } })

/-- ACCEPTANCE (R8) of a request that waits. -/
def execAcceptance (s : State) : Host.Outcome State Fault Refusal :=
  .next s.acceptPresented

/-- DOWNSTREAM_RESPONSE (R10): stored, or discarded; a result stored in the head makes it ready, and it is judged
(R16). -/
def execDownstreamResponse (status : BusStatus) (data : List Beat) (s : State) :
    Host.Outcome State Fault Refusal :=
  if s.brst then .next s
  else
    let stored : State :=
      { s with tracker := { s.tracker with inFlight := storeResponse status data s.tracker.inFlight } }
    if s.headAwaits then .next stored.judgeHead else .next stored

/-- COMPLETION (R18) of a ready head, on the judgment made at this moment (R17). -/
def execCompletion (s : State) : Host.Outcome State Fault Refusal :=
  .next s.judgeHead

/-- STALL_LIMIT_RUNS_OUT (R123): the microseconds up to the limit have passed, and the waiting head completes,
treated as short. A limit of 0 never runs out (R124). Log entry 5. -/
def execStallLimitRunsOut (s : State) : Host.Outcome State Fault Refusal :=
  match s.tracker.stall with
  | none => .next s
  | some count =>
    if s.capture.limit = 0#16 then .next s
    else .next (State.timeout { s with refTimer := s.refTimer + (s.capture.limit.toNat - count) })

/-- BUS_RESET (R20): BRST is asserted. -/
def execBusReset (s : State) : Host.Outcome State Fault Refusal :=
  .next s.busReset

/-- BRST_RELEASE (R20): the tracker accepts requests again; one presented meanwhile is accepted at once. -/
def execBrstRelease (s : State) : Host.Outcome State Fault Refusal :=
  if s.brst then .next (State.acceptPresented { s with brst := false }) else .next s

/-- POWER_ON_RESET (R21, R38, R42, R74, R88, R106, R131, R147, R160, R182), GSTRAP sampled as it ends. The queue and
BRST's level are outside the part (log entry 9); the count of free values goes on (log entry 16). -/
def execPowerOnReset (gstrap : Level) (s : State) : Host.Outcome State Fault Refusal :=
  .next { State.powerOn gstrap with pending := s.pending, brst := s.brst, freeCount := s.freeCount }

end Sys2Proof.Machine
end

