-- ==== Sys2Proof/Machine/LinkCommands.lean ====
section
/-! DEFINITION. The meanings of the happenings on the trace link and of the link's commands (chapter 8). -/

namespace Sys2Proof.Machine

/-- How many credits the counter holds at most (R134). -/
def creditLimit : Nat := 8

/-- CREDIT_PULSE (R135, R136). -/
def execCreditPulse (s : State) : Host.Outcome State Fault Refusal :=
  match s.link.state with
  | .disabled | .fault => .next s
  | .running =>
    if s.link.credit < creditLimit then
      .next (State.startFrame { s with link := { s.link with credit := s.link.credit + 1 } })
    else .next { s with link := { s.link with state := .fault } }

/-- FRAME_END (R140): the record in transmission is removed if it is still held; a removal is followed by a judgment
of a head in a stall wait (R122). -/
def execFrameEnd (s : State) : Host.Outcome State Fault Refusal :=
  match s.link.frame with
  | none => .next s
  | some f => .next (if s.capture.inTransmission then (s.endFrame f).rejudge else s.endFrame f)

/-- The answer of LINK_ENABLE (Table 11-7). -/
def linkEnabled (tag : Tag) (s : State) : State :=
  s.answer .linkEnable tag .ok [codeOfLinkState s.link.state, BitVec.ofNat 8 s.link.credit]

/-- LINK_ENABLE (R142). -/
def execLinkEnable (tag : Tag) (s : State) : Host.Outcome State Fault Refusal :=
  let taken := s.takeFrame .linkEnable
  match s.link.state with
  | .disabled => .next (linkEnabled tag { taken with link := { taken.link with state := .running, credit := 0 } })
  | .running => .next (linkEnabled tag taken)
  | .fault => .next (taken.refuse .linkEnable tag .linkFault)

/-- LINK_DISABLE (R143, R144). -/
def execLinkDisable (tag : Tag) (s : State) : Host.Outcome State Fault Refusal :=
  let cut := (s.takeFrame .linkDisable).cutFrame
  .next
    (State.answer { cut with link := { cut.link with state := .disabled, credit := 0 } } .linkDisable tag .ok
      [codeOfLinkState s.link.state, codeOfYesNo s.link.frame.isSome, 0x00#8])

end Sys2Proof.Machine
end

