-- ==== Sys2Proof/Machine/PolicyCommands.lean ====
section
/-! DEFINITION. The meanings of the commands of the region table and the guard (chapters 2, 3) and of the pending
slot (chapter 10). -/

namespace Sys2Proof.Machine

/-- STAGE_REGION (R28). -/
def execStageRegion (tag : Tag) (image : RegionArgs) (s : State) : Host.Outcome State Fault Refusal :=
  let taken := s.takeFrame .stageRegion
  match regionOfArgs image with
  | none => .next (taken.refuse .stageRegion tag .badArgument)
  | some staged =>
    .next (State.answer { taken with table := { taken.table with staging := some staged } } .stageRegion tag .ok [])

/-- COMMIT_REGION (R30 to R32). -/
def execCommitRegion (tag : Tag) (slot : BitVec 8) (s : State) : Host.Outcome State Fault Refusal :=
  .next ((s.takeFrame .commitRegion).takePolicy .commitRegion tag (s.testCommit slot))

/-- RETIRE_REGION (R33). -/
def execRetireRegion (tag : Tag) (slot : BitVec 8) (s : State) : Host.Outcome State Fault Refusal :=
  .next ((s.takeFrame .retireRegion).takePolicy .retireRegion tag (s.testRetire slot))

/-- READ_REGION (R35). -/
def execReadRegion (tag : Tag) (selector : BitVec 8) (s : State) : Host.Outcome State Fault Refusal :=
  let taken := s.takeFrame .readRegion
  match slotOfByte selector with
  | some i => .next (taken.answer .readRegion tag .ok (slotResult (s.table.slots.get i)))
  | none =>
    if selector = 0x10#8 then .next (taken.answer .readRegion tag .ok (stagingResult s.table.staging))
    else if selector = 0x11#8 then .next (taken.answer .readRegion tag .ok (defaultResult s.table))
    else .next (taken.refuse .readRegion tag .badSlot)

/-- SET_DEFAULT (R34). -/
def execSetDefault (tag : Tag) (attributes : AttributeArgs) (fill : BitVec 32) (s : State) :
    Host.Outcome State Fault Refusal :=
  .next ((s.takeFrame .setDefault).takePolicy .setDefault tag (s.testDefault attributes fill))

/-- SET_MODE (R54, R55). -/
def execSetMode (tag : Tag) (mode escalate : BitVec 8) (s : State) : Host.Outcome State Fault Refusal :=
  .next ((s.takeFrame .setMode).takePolicy .setMode tag (s.testMode mode escalate))

/-- READ_GUARD (R184). -/
def execReadGuard (tag : Tag) (s : State) : Host.Outcome State Fault Refusal :=
  .next ((s.takeFrame .readGuard).answer .readGuard tag .ok s.guardResult)

/-- QUERY_PENDING (R178). -/
def execQueryPending (tag : Tag) (s : State) : Host.Outcome State Fault Refusal :=
  .next ((s.takeFrame .queryPending).answer .queryPending tag .ok s.port.pendingResult)

/-- ABORT_PENDING (R179). -/
def execAbortPending (tag : Tag) (s : State) : Host.Outcome State Fault Refusal :=
  let taken := s.takeFrame .abortPending
  match s.port.slot with
  | none => .next (taken.refuse .abortPending tag .nothingPending)
  | some w =>
    .next
      (State.answer
        { taken with
          port := { taken.port with
            slot := none
            last := { outcome := .aborted, code := w.command.code.byte, tag := w.tag } } }
        .abortPending tag .ok w.bytes)

end Sys2Proof.Machine
end

