-- ==== Sys2Proof/Machine/PortCommands.lean ====
section
/-! DEFINITION. The meanings of BAD_FRAME, NULL and MAINT_RESET (chapter 10) and of the commands of the event flag
unit (chapter 9). -/

namespace Sys2Proof.Machine

/-- BAD_FRAME (R165, R166): a frame that fails a check makes a BAD_FRAME response and nothing else. A frame that
fails none is no bad frame: log entry 3. -/
def execBadFrame (bits : List Bool) (s : State) : Host.Outcome State Fault Refusal :=
  match frameFailure bits with
  | none => .next s
  | some reason =>
    .next
      ((s.takeBits bits.length).hold
        { status := .badFrame, tag := receivedTag bits, code := receivedCode bits,
          result := [codeOfSubReason reason] })

/-- NULL (R168). -/
def execNull (_tag : Tag) (s : State) : Host.Outcome State Fault Refusal :=
  .next (s.takeFrame .null)

/-- MAINT_RESET (R181). -/
def execMaintReset (tag : Tag) (s : State) : Host.Outcome State Fault Refusal :=
  .next ((s.takeFrame .maintReset).maintReset.answer .maintReset tag .resetDone [])

/-- READ_FLAGS (R159). -/
def execReadFlags (tag : Tag) (s : State) : Host.Outcome State Fault Refusal :=
  .next ((s.takeFrame .readFlags).answer .readFlags tag .ok s.flagsResult)

/-- CLEAR_FLAGS (R154). -/
def execClearFlags (tag : Tag) (flags : FlagSet) (s : State) : Host.Outcome State Fault Refusal :=
  let taken := s.takeFrame .clearFlags
  if namesNoFlag flags then .next (taken.refuse .clearFlags tag .badArgument)
  else
    let cleared : State := { taken with flags := { taken.flags with events := taken.flags.events &&& ~~~flags } }
    .next (cleared.answer .clearFlags tag .ok cleared.clearResult)

/-- SET_ALERT_ENABLE (R156). -/
def execSetAlertEnable (tag : Tag) (flags : FlagSet) (s : State) : Host.Outcome State Fault Refusal :=
  let taken := s.takeFrame .setAlertEnable
  if namesNoFlag flags then .next (taken.refuse .setAlertEnable tag .badArgument)
  else
    let enabled : State := { taken with flags := { taken.flags with enables := flags } }
    .next (enabled.answer .setAlertEnable tag .ok enabled.enableResult)

end Sys2Proof.Machine
end

