-- ==== Sys2Proof/Machine/TraceCommands.lean ====
section
/-! DEFINITION. The meanings of the commands of the violation list, the comparator bank, the sequencer and the
capture unit (chapters 4 to 7). -/

namespace Sys2Proof.Machine

/-! ## Violation list -/

/-- READ_VIOLATION (R70). -/
def execReadViolation (tag : Tag) (position : BitVec 8) (s : State) : Host.Outcome State Fault Refusal :=
  let taken := s.takeFrame .readViolation
  if 7 < position.toNat then .next (taken.refuse .readViolation tag .badArgument)
  else
    match s.violations.records[position.toNat]? with
    | none => .next (taken.refuse .readViolation tag .empty)
    | some v => .next (taken.answer .readViolation tag .ok (v.result s.violations.records.length))

/-- ACK_VIOLATION (R71, R72). -/
def execAckViolation (tag : Tag) (count : BitVec 8) (s : State) : Host.Outcome State Fault Refusal :=
  let taken := s.takeFrame .ackViolation
  if count.toNat = 0 ∨ 8 < count.toNat then .next (taken.refuse .ackViolation tag .badArgument)
  else if s.violations.records.length < count.toNat then .next (taken.refuse .ackViolation tag .badCount)
  else
    let left := s.violations.acknowledge count.toNat
    .next (State.answer { taken with violations := left } .ackViolation tag .ok left.ackResult)

/-! ## Comparator bank -/

/-- LOAD_COMPARATOR (R85, R86). -/
def execLoadComparator (tag : Tag) (number : BitVec 8) (image : ComparatorArgs) (s : State) :
    Host.Outcome State Fault Refusal :=
  let taken := s.takeFrame .loadComparator
  match fourOfByte number with
  | none => .next (taken.refuse .loadComparator tag .badArgument)
  | some i =>
    if s.sequencer.isArmed then .next (taken.refuse .loadComparator tag .seqArmed)
    else
      match comparatorOfArgs clearedComparator image with
      | none => .next (taken.refuse .loadComparator tag .badArgument)
      | some c =>
        .next
          (State.answer { taken with comparators := taken.comparators.set i.val c i.isLt }
            .loadComparator tag .ok []).rejudge

/-- READ_COMPARATOR (R87). -/
def execReadComparator (tag : Tag) (number : BitVec 8) (s : State) : Host.Outcome State Fault Refusal :=
  let taken := s.takeFrame .readComparator
  match fourOfByte number with
  | none => .next (taken.refuse .readComparator tag .badArgument)
  | some i => .next (taken.answer .readComparator tag .ok (s.comparators.get i).result)

/-! ## Trigger sequencer -/

/-- LOAD_STEP (R92). -/
def execLoadStep (tag : Tag) (number : BitVec 8) (image : StepArgs) (s : State) :
    Host.Outcome State Fault Refusal :=
  let taken := s.takeFrame .loadStep
  if 4 < number.toNat then .next (taken.refuse .loadStep tag .badArgument)
  else if s.sequencer.isArmed then .next (taken.refuse .loadStep tag .seqArmed)
  else
    match fourOfByte number with
    | none =>
      .next
        (State.answer { taken with sequencer := { taken.sequencer with restart := image.condition } }
          .loadStep tag .ok [])
    | some k =>
      match stepOfArgs clearedStep image with
      | none => .next (taken.refuse .loadStep tag .badArgument)
      | some x =>
        .next
          (State.answer
            { taken with
              sequencer := { taken.sequencer with steps := taken.sequencer.steps.set k.val x k.isLt } }
            .loadStep tag .ok [])

/-- ARM (R94, R95). -/
def execArm (tag : Tag) (s : State) : Host.Outcome State Fault Refusal :=
  let taken := s.takeFrame .arm
  if s.sequencer.isArmed then .next (taken.refuse .arm tag .seqArmed)
  else if s.sequencer.valid then
    .next
      (State.answer
        { taken with
          sequencer := { taken.sequencer with state := taken.sequencer.counting 0 }
          capture := { taken.capture with
            on := match taken.capture.mode with
              | .sequenced => false
              | .always | .off => taken.capture.on } }
        .arm tag .ok []).rejudge
  else .next (taken.refuse .arm tag .badProgram)

/-- DISARM (R96). -/
def execDisarm (tag : Tag) (s : State) : Host.Outcome State Fault Refusal :=
  let taken := s.takeFrame .disarm
  .next
    (State.answer { taken with sequencer := { taken.sequencer with state := .disarmed } } .disarm tag .ok []).rejudge

/-- READ_SEQUENCER (R105). -/
def execReadSequencer (tag : Tag) (s : State) : Host.Outcome State Fault Refusal :=
  .next ((s.takeFrame .readSequencer).answer .readSequencer tag .ok s.sequencer.result)

/-! ## Capture unit and trace buffer -/

/-- The capture unit with the settings that SET_CAPTURE carries (R107, R108); none where they are refused. -/
def Capture.withSettings (c : Capture) (a : CaptureArgs) : Option Capture :=
  match captureModeOfCode a.mode, yesNoOfCode a.readData, yesNoOfCode a.writeData, policyOfCode a.policy with
  | some mode, some readData, some writeData, some policy =>
    some
      { c with
        mode, readData, writeData, policy
        filter := a.filter
        limit := a.limit
        on := mode == .always }
  | _, _, _, _ => none

/-- After SET_CAPTURE in a stall wait the head is judged again; if it is still short under STALL and the new limit is
at or below the time waited, the limit runs out (R124). -/
def State.rejudgeUnderLimit (s : State) : State :=
  let judged := s.rejudge
  match s.tracker.stall, s.readyHead with
  | some count, some e =>
    if !(s.judgment e).fits && s.capture.policy == .stall && limitReached s.capture.limit count then s.timeout
    else judged
  | _, _ => judged

/-- SET_CAPTURE (R107, R108, R124). -/
def execSetCapture (tag : Tag) (settings : CaptureArgs) (s : State) : Host.Outcome State Fault Refusal :=
  let taken := s.takeFrame .setCapture
  match s.capture.withSettings settings with
  | none => .next (taken.refuse .setCapture tag .badArgument)
  | some c => .next (State.answer { taken with capture := c } .setCapture tag .ok []).rejudgeUnderLimit

/-- READ_CAPTURE (R130). -/
def execReadCapture (tag : Tag) (s : State) : Host.Outcome State Fault Refusal :=
  .next ((s.takeFrame .readCapture).answer .readCapture tag .ok s.capture.result)

/-- FLUSH_TRACE (R128). -/
def execFlushTrace (tag : Tag) (s : State) : Host.Outcome State Fault Refusal :=
  let taken := s.takeFrame .flushTrace
  .next
    (State.answer
      { taken with capture := { taken.capture with buffer := [], loss := 0#16, inTransmission := false } }
      .flushTrace tag .ok [BitVec.ofNat 8 s.capture.buffer.length]).rejudge

/-- READ_TRACE (R129). -/
def execReadTrace (tag : Tag) (s : State) : Host.Outcome State Fault Refusal :=
  let taken := s.takeFrame .readTrace
  match s.link.state with
  | .running | .fault => .next (taken.refuse .readTrace tag .linkOwns)
  | .disabled =>
    match s.capture.buffer with
    | [] => .next (taken.refuse .readTrace tag .empty)
    | head :: rest =>
      .next
        (State.answer { taken with capture := { taken.capture with buffer := rest } } .readTrace tag .ok
          (head.result rest.length)).rejudge

end Sys2Proof.Machine
end

