-- ==== Sys2Proof/Machine/Dispatch.lean ====
section
/-! DEFINITION. Each command's meaning: its effect on everything but the queue. -/

namespace Sys2Proof.Machine

def exec (i : Instr) (s : State) : Host.Outcome State Fault Refusal :=
  match i with
  | .presentedRequest request => Sys2Proof.Machine.execPresentedRequest request s
  | .acceptance => Sys2Proof.Machine.execAcceptance s
  | .downstreamResponse status data => Sys2Proof.Machine.execDownstreamResponse status data s
  | .completion => Sys2Proof.Machine.execCompletion s
  | .stallLimitRunsOut => Sys2Proof.Machine.execStallLimitRunsOut s
  | .busReset => Sys2Proof.Machine.execBusReset s
  | .powerOnReset gstrap => Sys2Proof.Machine.execPowerOnReset gstrap s
  | .creditPulse => Sys2Proof.Machine.execCreditPulse s
  | .frameEnd => Sys2Proof.Machine.execFrameEnd s
  | .badFrame bits => Sys2Proof.Machine.execBadFrame bits s
  | .null tag => Sys2Proof.Machine.execNull tag s
  | .stageRegion tag image => Sys2Proof.Machine.execStageRegion tag image s
  | .commitRegion tag slot => Sys2Proof.Machine.execCommitRegion tag slot s
  | .retireRegion tag slot => Sys2Proof.Machine.execRetireRegion tag slot s
  | .readRegion tag selector => Sys2Proof.Machine.execReadRegion tag selector s
  | .setDefault tag attributes fill => Sys2Proof.Machine.execSetDefault tag attributes fill s
  | .setMode tag mode escalate => Sys2Proof.Machine.execSetMode tag mode escalate s
  | .readGuard tag => Sys2Proof.Machine.execReadGuard tag s
  | .queryPending tag => Sys2Proof.Machine.execQueryPending tag s
  | .abortPending tag => Sys2Proof.Machine.execAbortPending tag s
  | .readViolation tag position => Sys2Proof.Machine.execReadViolation tag position s
  | .ackViolation tag count => Sys2Proof.Machine.execAckViolation tag count s
  | .loadComparator tag number image => Sys2Proof.Machine.execLoadComparator tag number image s
  | .readComparator tag number => Sys2Proof.Machine.execReadComparator tag number s
  | .loadStep tag number image => Sys2Proof.Machine.execLoadStep tag number image s
  | .arm tag => Sys2Proof.Machine.execArm tag s
  | .disarm tag => Sys2Proof.Machine.execDisarm tag s
  | .readSequencer tag => Sys2Proof.Machine.execReadSequencer tag s
  | .setCapture tag settings => Sys2Proof.Machine.execSetCapture tag settings s
  | .readCapture tag => Sys2Proof.Machine.execReadCapture tag s
  | .flushTrace tag => Sys2Proof.Machine.execFlushTrace tag s
  | .readTrace tag => Sys2Proof.Machine.execReadTrace tag s
  | .linkEnable tag => Sys2Proof.Machine.execLinkEnable tag s
  | .linkDisable tag => Sys2Proof.Machine.execLinkDisable tag s
  | .readFlags tag => Sys2Proof.Machine.execReadFlags tag s
  | .clearFlags tag flags => Sys2Proof.Machine.execClearFlags tag flags s
  | .setAlertEnable tag flags => Sys2Proof.Machine.execSetAlertEnable tag flags s
  | .maintReset tag => Sys2Proof.Machine.execMaintReset tag s
  | .brstRelease => Sys2Proof.Machine.execBrstRelease s

end Sys2Proof.Machine
end

