-- ==== Sys2Proof/Safety.lean ====
section
/-! DEFINITION. What the statements speak of: a run of several commands, the state after a command has been answered,
and the laws the manual gives the part's state. -/

namespace Sys2Proof.Machine

/-! ## Runs and answers -/

/-- The commands of a list, one after another. -/
def runAll : List Instr → State → Host.Outcome State Fault Refusal
  | [], s => .next s
  | c :: rest, s =>
    match exec c s with
    | .next t => runAll rest t
    | .fault f => .fault f
    | .refused r => .refused r

/-- The state with a frame of `n` bits taken: the receiver idle, and the held response, followed by zeros, shifted
out as far as `n` bits go (R163, R164). -/
def State.framed (s : State) (n : Nat) : State :=
  { s with
    port := { s.port with receiver := [] }
    mdo := (bitsOfBytes s.port.held.bytes ++ List.replicate n false).take n :: s.mdo }

/-- The state with a frame of `bytes` bytes taken and answered (R167). -/
def State.responded (s : State) (bytes : Nat) (status : Status) (tag : Tag) (code : Byte) (result : List Byte) :
    State :=
  let framed := s.framed (8 * bytes)
  { framed with port := { framed.port with held := { status, tag, code, result } } }

/-- Two states agree but for the held response, the receiver and what has been shifted out on MDO. -/
def SameButForTheAnswer (s t : State) : Prop :=
  { t with port := { t.port with receiver := s.port.receiver, held := s.port.held }, mdo := s.mdo } = s

/-! ## Conditions the manual names -/

/-- The acceptance conditions on a request (R7): BRST is not asserted; no lock is open whose opening read is in the
list; with no lock open the list holds fewer than four entries, and is empty for a locked READ. -/
def Acceptable (s : State) (r : Request) : Prop :=
  s.brst = false ∧
  (∀ l, s.tracker.lock = some l → l.outstanding = false) ∧
  (s.tracker.lock = none →
    s.tracker.inFlight.length < 4 ∧ (r.lock = true → r.direction = .read → s.tracker.inFlight = []))

/-- The matching locked write of an open lock, of a request that passes R3 (R4). -/
def Matches (l : Lock) (r : Request) : Prop :=
  r.lock = true ∧ r.direction = .write ∧ r.kind = .data ∧ r.initiator = l.initiator ∧ r.address = l.address ∧
    r.size = l.size

/-- What every acceptance of a request does (R6, R8, R9), `c` being the state the request is classified in, `v` its
verdict and `role` its lock role: the entry is appended with the ordinal; the request is issued downstream exactly
if its action is PASS, PASSED_MONITOR or BYPASS; a new head whose result is present and that is short under STALL
begins to wait; nothing has left the part upstream, on TLD or on MDO; and the trace blocks, the held response and
the rest are as they were. That an accepted transaction with its result present does not complete in the same step
is log entry 2. -/
def AcceptedAs (s c t : State) (r : Request) (v : Verdict) (role : LockRole) : Prop :=
  let entry : Entry :=
    { ordinal := s.tracker.ordinal, request := r, verdict := v, forwarded := v.action.forwards
      result := resultAtAcceptance c.table.fill v r, role }
  t.tracker.inFlight = s.tracker.inFlight ++ [entry] ∧
  t.tracker.ordinal = s.tracker.ordinal + 1#32 ∧
  t.tracker.presented = none ∧
  t.tracker.stall =
    (if s.tracker.inFlight = [] ∧ entry.result.isSome = true ∧ (t.judgment entry).fits = false ∧
        s.capture.policy = .stall then some 0
      else s.tracker.stall) ∧
  t.downstream =
    (if v.action = .pass ∨ v.action = .passedMonitor ∨ v.action = .bypass then
      { address := r.address, size := r.size, direction := r.direction, kind := r.kind, privilege := r.privilege,
        lock := r.lock, data := r.data } :: s.downstream
    else s.downstream) ∧
  t.violations = (c.handOn s.tracker.ordinal r v).violations ∧
  { t with
    tracker := s.tracker, table := s.table, guardUnit := s.guardUnit, violations := s.violations
    capture := { t.capture with reserved := s.capture.reserved }, flags := s.flags
    port := { t.port with slot := s.port.slot, last := s.port.last }
    downstream := s.downstream } = s

/-- Whether a frame starts once a completion has stored its records (R137): with the link RUNNING, no frame being
sent, a credit and a stored record, the head's frame starts and spends one credit; else the link and the record in
transmission stay as they were. -/
def FrameStartsIfDue (s t : State) : Prop :=
  (s.link.frame ≠ none ∨ s.link.state ≠ .running ∨ s.link.credit = 0 ∨ t.capture.buffer = [] →
    t.link = s.link ∧ t.capture.inTransmission = s.capture.inTransmission) ∧
  (s.link.frame = none → s.link.state = .running → 0 < s.link.credit →
    ∀ head rest, t.capture.buffer = head :: rest →
      t.link =
        { s.link with credit := s.link.credit - 1, frame := some { content := head.frame, position := 0 } } ∧
      t.capture.inTransmission = true)

/-- What every completion of a head does (R18), storing where it `fits` and else treated as short, at a `timeout` or
not: its response is given; it leaves the list; an opening read's hold ends, trace-dropped where it is short; the
sequencer steps; its records are stored or dropped; exactly the flags of its events are set; a frame may start; a
new head that is ready and short under STALL begins to wait; and all else is as it was. That a new head that is
ready does not complete in the same step, and that no waiting request is accepted in it, is log entry 2; TRACE_LOSS
beside a LOSS record that the same completion stores is log entry 13. -/
def CompletedAs (s t : State) (e : Entry) (fits timeout : Bool) : Prop :=
  let j := s.judgment e
  t.upstream =
    { ordinal := e.ordinal, status := e.status
      data := match e.result with | none => [] | some result => result.data } :: s.upstream ∧
  t.tracker.inFlight = s.tracker.inFlight.tail ∧ t.tracker.ordinal = s.tracker.ordinal ∧
  t.tracker.presented = s.tracker.presented ∧
  t.tracker.lock =
    (if j.pair = .opening then
      s.tracker.lock.map fun l => { l with outstanding := false, traceDropped := l.traceDropped || !fits }
    else s.tracker.lock) ∧
  (t.tracker.stall = none ∨ t.tracker.stall = some 0) ∧
  (t.tracker.stall = some 0 ↔
    ∃ next, t.readyHead = some next ∧ (t.judgment next).fits = false ∧ t.capture.policy = .stall) ∧
  t.sequencer = { s.sequencer with state := (s.sequencer.step (matchSet s.comparators e)).1 } ∧
  { t.capture with inTransmission := s.capture.inTransmission } = s.capture.complete j fits ∧
  (∀ f : Flag, t.flags.events.getLsbD f.number = true ↔
    s.flags.events.getLsbD f.number = true ∨
    (f = .downstreamError ∧ e.forwarded = true ∧ e.status = .error) ∨
    (f = .seqAlert ∧ ∃ k actions last, j.outcome = .fired k actions last ∧ actions.alert = true) ∨
    (f = .seqDone ∧ ∃ k actions, j.outcome = .fired k actions true) ∨
    (f = .traceLoss ∧ s.capture.loss = 0#16 ∧ droppedCount j.pair fits j.own j.mark ≠ 0) ∨
    (f = .traceHalf ∧ s.capture.buffer.length < 32 ∧ 32 ≤ t.capture.buffer.length) ∨
    (f = .stallTimeout ∧ timeout = true)) ∧
  t.flags.enables = s.flags.enables ∧
  FrameStartsIfDue s t ∧
  { t with
    upstream := s.upstream, tracker := s.tracker, sequencer := s.sequencer, capture := s.capture
    flags := s.flags, link := s.link } = s

/-- Every field of an attribute record as carried is in range (R28, R34). -/
def AttributesInRange (a : AttributeArgs) : Prop :=
  a.userRights ≠ 3#2 ∧ a.supervisorRights ≠ 3#2 ∧ a.userFetch.toNat ≤ 1 ∧ a.supervisorFetch.toNat ≤ 1 ∧
    a.denyAction.toNat ≤ 1 ∧ a.traceClass.toNat ≤ 3

/-- Every field of an entry image as carried is in range (R28). -/
def RegionInRange (r : RegionArgs) : Prop :=
  r.priority.toNat ≤ 15 ∧ r.base.toNat ≤ 2 ^ 30 - 1 ∧ r.limit.toNat ≤ 2 ^ 30 - 1 ∧
    AttributesInRange r.attributes

/-- A carried USED image breaks none of the conditions of R85. -/
def ComparatorSound (c : ComparatorArgs) : Prop :=
  (c.windowEnable = true → c.windowLow.toNat ≤ c.windowHigh.toNat) ∧ c.windowLow.toNat < 2 ^ 36 ∧
    c.windowHigh.toNat < 2 ^ 36 ∧ c.direction ≠ 3#2 ∧ c.kind ≠ 3#2 ∧ c.privilege ≠ 3#2 ∧ c.verdict ≠ 3#2 ∧
    c.initiators ≠ 0#8 ∧ c.classes ≠ 0#4

/-- The conditions of R94 on a program. -/
def ValidProgram (q : Sequencer) : Prop :=
  (q.steps.get 0).defined = true ∧
  (∀ j k : Fin 4, j < k → (q.steps.get k).defined = true → (q.steps.get j).defined = true) ∧
  (∀ k, (q.steps.get k).defined = true →
    (q.steps.get k).condition ≠ 0#4 ∧
    ¬((q.steps.get k).actions.captureOn = true ∧ (q.steps.get k).actions.captureOff = true) ∧
    ((q.steps.get k).last = true ↔ ∀ j, k < j → (q.steps.get j).defined = false))

/-- A match set satisfies a step (R90): with ANY, some comparator of the condition is in it; with ALL, every one. -/
def Satisfies (m : ComparatorSet) (x : ProgramStep) : Prop :=
  match x.combine with
  | .any => ∃ n : Fin 4, x.condition.getLsbD n = true ∧ m.getLsbD n = true
  | .all => ∀ n : Fin 4, x.condition.getLsbD n = true → m.getLsbD n = true

/-- The data a transaction has as seen upstream (R82). A forwarded single-beat FETCH WRITE has its write data,
whatever its status: the model's choice, log entry 21. -/
def DataSeenUpstream (e : Entry) (v : Beat) : Prop :=
  e.request.size.isBurst = false ∧
  match e.request.direction with
  | .write =>
    (e.forwarded = true ∨ e.verdict.action = .absorb) ∧ v = lowBytes e.request.size (e.request.data.headD 0#64)
  | .read =>
    ∃ data, e.result = some { status := .okay, data := data } ∧ v = lowBytes e.request.size (data.headD 0#64)

/-! ## Laws of the tracker -/

/-- The in-flight list (R5, R7, R11): never more than four entries; an entry that was not forwarded has its result;
only the head has a lock role; an outstanding lock has its opening read alone in the list, and an open lock that is
not outstanding has the list empty. -/
def TrackerLaw (t : Tracker) : Prop :=
  t.inFlight.length ≤ 4 ∧
  (∀ e ∈ t.inFlight, e.forwarded = false → e.result.isSome = true) ∧
  (∀ e ∈ t.inFlight.tail, e.role = .none) ∧
  (∀ l, t.lock = some l →
    if l.outstanding then ∃ e, t.inFlight = [e] ∧ e.role = .openingRead else t.inFlight = [])

/-- The stall wait (R17, R123, R124): a head waits only while it is ready and short, the full policy is STALL and the
stall limit has not run out. -/
def StallLaw (s : State) : Prop :=
  ∀ count, s.tracker.stall = some count →
    ∃ e, s.readyHead = some e ∧ (s.judgment e).fits = false ∧ s.capture.policy = .stall ∧
      (s.capture.limit = 0#16 ∨ count < s.capture.limit.toNat)

/-- The locked pair (R115, R117, R118): while a lock is open, a reservation is held exactly from the completion of an
opening read that was not trace-dropped; without an open lock it is held only for the closing write at the head; and
the loss counter is 0 while it is held. -/
def PairLaw (s : State) : Prop :=
  (∀ l, s.tracker.lock = some l → s.capture.reserved = (!l.outstanding && !l.traceDropped)) ∧
  (∀ l, s.tracker.lock = some l → l.outstanding = true → l.traceDropped = false) ∧
  (s.tracker.lock = none → s.capture.reserved = true →
    ∃ e rest, s.tracker.inFlight = e :: rest ∧ e.role = .closingWrite false) ∧
  (s.capture.reserved = true → s.capture.loss = 0#16)

/-! ## Laws of the trace buffer and the link -/

/-- The trace buffer (R113, R115): stored records and reserved slots together never exceed 64, and the stored records
carry consecutive sequence numbers that end just below the sequence counter. -/
def BufferLaw (c : Capture) : Prop :=
  c.buffer.length + c.reservedCount ≤ 64 ∧
  ∀ i, ∀ h : i < c.buffer.length,
    c.buffer[i].sequence = c.sequence - BitVec.ofNat 16 (c.buffer.length - i)

/-- The trace link (R114, R134 to R137): the credit counter never exceeds 8; DISABLED has credit 0 and no frame; FAULT
has credit 8; RUNNING with no frame and a stored record has no credit; the record in transmission is the head and its
frame is the one being sent; a frame being sent has not been sent to its end. -/
def LinkLaw (s : State) : Prop :=
  s.link.credit ≤ 8 ∧
  (s.link.state = .disabled → s.link.credit = 0 ∧ s.link.frame = none) ∧
  (s.link.state = .fault → s.link.credit = 8) ∧
  (s.link.state = .running → s.link.frame = none → s.capture.buffer ≠ [] → s.link.credit = 0) ∧
  (s.capture.inTransmission = true →
    ∃ f head rest, s.link.frame = some f ∧ s.capture.buffer = head :: rest ∧ f.content = head.frame) ∧
  (∀ f, s.link.frame = some f → f.position < f.content.length)

/-! ## Laws of the policy -/

/-- Two violations are alike for coalescing: the same initiator, granule, direction and reason (R64). -/
def Violation.alike (v w : Violation) : Prop :=
  v.initiator = w.initiator ∧ granuleOf v.address = granuleOf w.address ∧ v.direction = w.direction ∧
    v.reason = w.reason

/-- The violation list (R62, R66, R72): at most eight records; every repeat count is 1 to 255; a record is followed by
one alike only if its count is 255; the overflow counter is 0 while the list is empty; no record has matched NONE. -/
def ViolationLaw (l : ViolationList) : Prop :=
  l.records.length ≤ 8 ∧
  (∀ v ∈ l.records, v.count ≠ 0#8 ∧ v.matched ≠ .none) ∧
  (∀ i, ∀ h : i + 1 < l.records.length,
    (l.records[i + 1]).alike (l.records[i]) → (l.records[i]).count = 255#8) ∧
  (l.records = [] → l.overflow = 0#16)

/-- An image can stand in a slot beside the other valid entries (R23): its base is at or below its limit, its
initiator set is not empty, and no valid entry of another slot has its priority. -/
def RegionTable.admits (t : RegionTable) (i : Fin 16) (image : RegionImage) : Prop :=
  image.base ≤ image.limit ∧ image.initiators ≠ 0#8 ∧
    ∀ j, j ≠ i → (t.slots.get j).valid = true → (t.slots.get j).image.priority ≠ image.priority

/-- The region table and the pending slot (R23, R32, R174): every valid entry can stand beside the others; a command
waits only while a lock is open; and the image of a waiting COMMIT_REGION can stand in its slot. -/
def PolicyLaw (s : State) : Prop :=
  (∀ i, (s.table.slots.get i).valid = true → s.table.admits i (s.table.slots.get i).image) ∧
  (s.port.slot.isSome = true → s.tracker.lock.isSome = true) ∧
  (∀ w slot image, s.port.slot = some w → w.command = .commitRegion slot image → s.table.admits slot image)

/-- The guard (R56): LOCKDOWN exists only in ENFORCE. -/
def GuardLaw (g : GuardUnit) : Prop :=
  g.lockdown = true → g.mode = .enforce

/-! ## Laws of the trace settings -/

/-- The trigger sequencer (R89, R91): every count is 1 to 65535; an UNDEFINED step holds the cleared step image; in
ARMED(k, r) the program is valid, step k is DEFINED and r lies between 1 and its count. -/
def SequencerLaw (q : Sequencer) : Prop :=
  (∀ k, (q.steps.get k).count ≠ 0#16) ∧
  (∀ k, (q.steps.get k).defined = false → q.steps.get k = clearedStep) ∧
  (∀ k r, q.state = .armed k r →
    ValidProgram q ∧ (q.steps.get k).defined = true ∧ 1 ≤ r.toNat ∧ r.toNat ≤ (q.steps.get k).count.toNat)

/-- The comparators (R76, R77, R85): a USED comparator has a non-empty initiator set and class set and, with its
window enabled, its low bound at or below its high bound; an UNUSED one holds the cleared image. -/
def ComparatorLaw (bank : Vector Comparator 4) : Prop :=
  ∀ i, if (bank.get i).used then
      (bank.get i).initiators ≠ 0#8 ∧ (bank.get i).classes ≠ 0#4 ∧
        ((bank.get i).windowEnable = true → (bank.get i).windowLow ≤ (bank.get i).windowHigh)
    else bank.get i = clearedComparator

/-- The capture state (R108): on throughout in mode ALWAYS, off throughout in mode OFF. -/
def CaptureStateLaw (c : Capture) : Prop :=
  (c.mode = .always → c.on = true) ∧ (c.mode = .off → c.on = false)

/-- The event flag unit (R150, R151): the bits that stand for no flag are clear, and the level flags have no memory of
their own. -/
def FlagLaw (f : FlagUnit) : Prop :=
  f.events &&& 0xE013#16 = 0#16 ∧ f.enables &&& 0xE001#16 = 0#16

/-- Every law of the state. -/
def EveryLaw (s : State) : Prop :=
  TrackerLaw s.tracker ∧ StallLaw s ∧ PairLaw s ∧ BufferLaw s.capture ∧ LinkLaw s ∧ ViolationLaw s.violations ∧
    PolicyLaw s ∧ GuardLaw s.guardUnit ∧ SequencerLaw s.sequencer ∧ ComparatorLaw s.comparators ∧
    CaptureStateLaw s.capture ∧ FlagLaw s.flags

end Sys2Proof.Machine
end

