-- ==== Sys2Proof/Certificates/Slice0/Obligations.lean ====
section
/-! DEFINITION. The statements for the provers. A statement whose docstring names a log entry rests on that choice of
the model; every other clause is the manual's. -/

open Sys2Proof Sys2Proof.Machine

/-! ## The machine -/

/-- A step on a queue that is not empty runs the command at its front on the state with the queue's rest. -/
def Obligations.StepRunsTheCommandInFront : Prop :=
  ∀ (c : Instr) (rest : List Instr) (s : State),
    step { s with pending := c :: rest } = exec c { s with pending := rest }

/-- On an empty queue: a ready head that is in no stall wait completes; else a presented request whose acceptance
conditions hold is accepted; else a microsecond passes: a stall wait counts it, a frame being sent goes on by some
number of bytes short of its end, and nothing else changes, unless the wait reaches a non-zero limit, which runs out
then (R122, R191). The model's choices: log entries 2, 4 and 6. -/
def Obligations.EmptyQueueTakesWhatIsDue : Prop :=
  ∀ s : State, s.pending = [] →
    (s.readyHead.isSome = true → s.tracker.stall = none → step s = exec .completion s) ∧
    (s.readyHead = none ∨ s.tracker.stall ≠ none →
      (∀ r, s.tracker.presented = some r → Acceptable s r → step s = exec .acceptance s) ∧
      ((∀ r, s.tracker.presented = some r → ¬Acceptable s r) →
        ∃ u : State,
          u.refTimer = s.refTimer + 1 ∧
          u.tracker = { s.tracker with stall := s.tracker.stall.map (· + 1) } ∧
          (s.link.frame = none → u.link = s.link) ∧
          (∀ f, s.link.frame = some f → ∃ position, f.position ≤ position ∧
            (f.position < f.content.length → position < f.content.length) ∧
            u.link = { s.link with frame := some { content := f.content, position := position } }) ∧
          { u with refTimer := s.refTimer, tracker := s.tracker, link := s.link, freeCount := s.freeCount } = s ∧
          (s.tracker.stall = none → step s = .next u) ∧
          (∀ count, s.tracker.stall = some count →
            (s.capture.limit = 0#16 ∨ count + 1 < s.capture.limit.toNat → step s = .next u) ∧
            (s.capture.limit ≠ 0#16 → s.capture.limit.toNat ≤ count + 1 →
              step s = exec .stallLimitRunsOut u ∧
              ∀ e, s.readyHead = some e → ∃ t, step s = .next t ∧ CompletedAs u t e false true))))

/-- Every command answers a next state, whatever the state, and leaves the queue as it was. That no command stops
the part is the model's inference, log entry 18; that a happening which cannot arise in a state answers that state
is its choice, log entry 3. -/
def Obligations.EveryCommandAnswersNextAndKeepsTheQueue : Prop :=
  ∀ (c : Instr) (s : State), ∃ t, exec c s = .next t ∧ t.pending = s.pending

/-! ## Resets -/

/-- After a power-on reset every block holds the value the manual states for it; the defaults and the guard's mode are
chosen by GSTRAP as sampled (Table 2-4, R42). -/
def Obligations.PowerOnResetSetsEveryBlock : Prop :=
  ∀ (gstrap : Level) (s : State), ∃ t, exec (.powerOnReset gstrap) s = .next t ∧
    t.tracker = { inFlight := [], presented := none, ordinal := 0#32, lock := none, stall := none } ∧
    (∀ i, t.table.slots.get i =
      { valid := false
        image :=
          { priority := 0#4, base := 0#30, limit := 0#30, initiators := 0#8
            attributes :=
              { userRights := .none, supervisorRights := .none, userFetch := false, supervisorFetch := false,
                denyAction := .refuse, log := false, traceClass := 0#2 } } }) ∧
    t.table.staging = none ∧ t.table.fill = 0#32 ∧
    (gstrap = .high →
      t.table.defaults =
        { userRights := .none, supervisorRights := .readWrite, userFetch := false, supervisorFetch := true,
          denyAction := .refuse, log := true, traceClass := 0#2 } ∧
      t.guardUnit = { mode := .enforce, escalate := false, lockdown := false, strap := .high }) ∧
    (gstrap = .low →
      t.table.defaults =
        { userRights := .readWrite, supervisorRights := .readWrite, userFetch := true, supervisorFetch := true,
          denyAction := .refuse, log := true, traceClass := 0#2 } ∧
      t.guardUnit = { mode := .bypass, escalate := false, lockdown := false, strap := .low }) ∧
    t.violations = { records := [], overflow := 0#16 } ∧
    (∀ i, t.comparators.get i =
      { used := false, windowEnable := false, windowLow := 0#36, windowHigh := 0#36, direction := none,
        kind := none, privilege := none, initiators := 0xFF#8, verdict := none, classes := 0xF#4,
        dataEnable := false, dataValue := 0#64, dataMask := 0#64, dataInvert := false }) ∧
    t.sequencer.state = .disarmed ∧ t.sequencer.restart = 0#4 ∧
    (∀ k, t.sequencer.steps.get k =
      { defined := false, condition := 0#4, combine := .any, count := 1#16
        actions := { captureOn := false, captureOff := false, mark := false, alert := false }, last := false }) ∧
    t.capture =
      { mode := .off, filter := 0#4, readData := false, writeData := false, policy := .drop, limit := 0#16,
        on := false, buffer := [], reserved := false, inTransmission := false, loss := 0#16, sequence := 0#16 } ∧
    t.link = { state := .disabled, credit := 0, frame := none } ∧
    t.flags = { events := 0#16, enables := 0#16 } ∧
    t.port =
      { receiver := [], held := { status := .ok, tag := 0#4, code := 0x00#8, result := [] }, slot := none
        last := { outcome := .none, code := 0x00#8, tag := 0#4 } }

/-- The laws of the state hold after a power-on reset, under either strap; the machine's reset state is the one with
GSTRAP high (log entry 1). -/
def Obligations.ResetMeetsEveryLaw : Prop :=
  State.reset = State.powerOn .high ∧ ∀ gstrap, EveryLaw (State.powerOn gstrap)

/-- MAINT_RESET: a waiting command is cancelled, every block takes the state of a power-on reset under the strap
value captured before, the in-flight list, the ordinal counter and the presented request are kept, a frame is cut
short of its end, RESET_DONE is held, and a ready head in a stall wait completes. The lock roles keep but their
trace-dropped marking (R132). That the waiting head alone completes in this step, and a ready head behind it at its
own completion, is the model's inference, log entry 2; how far a frame that is cut had come is free, log entry 6. -/
def Obligations.MaintResetResetsEveryBlock : Prop :=
  ∀ (tag : Tag) (s : State), ∃ t, exec (.maintReset tag) s = .next t ∧
    (let p := State.powerOn s.guardUnit.strap
     t.table = p.table ∧ t.guardUnit = p.guardUnit ∧ t.violations = p.violations ∧
     t.comparators = p.comparators ∧ t.sequencer = p.sequencer ∧ t.capture = p.capture ∧ t.link = p.link) ∧
    t.flags.enables = 0#16 ∧
    t.tracker.lock = none ∧ t.tracker.stall = none ∧ t.tracker.ordinal = s.tracker.ordinal ∧
    t.tracker.presented = s.tracker.presented ∧
    t.port =
      { receiver := [], held := { status := .resetDone, tag := tag, code := 0xF0#8, result := [] }, slot := none
        last :=
          match s.port.slot with
          | none => s.port.last
          | some w => { outcome := .cancelled, code := w.command.code.byte, tag := w.tag } } ∧
    (let kept := s.tracker.inFlight.map fun e =>
        { e with role := match e.role with | .closingWrite _ => .closingWrite false | role => role }
     (s.tracker.stall = none ∨ s.readyHead = none →
       t.tracker.inFlight = kept ∧ t.upstream = s.upstream ∧ t.flags.events = 0#16) ∧
     (∀ e, s.tracker.stall ≠ none → s.readyHead = some e →
       t.tracker.inFlight = kept.tail ∧ t.upstream = e.response :: s.upstream ∧
       t.flags.events = if e.forwarded = true ∧ e.status = .error then 0x1000#16 else 0#16)) ∧
    (s.link.frame = none → t.tld = s.tld) ∧
    (∀ f, s.link.frame = some f → f.position < f.content.length →
      ∃ n, n < f.content.length ∧ t.tld = f.content.take n :: s.tld) ∧
    { t with
      tracker := s.tracker, table := s.table, guardUnit := s.guardUnit, violations := s.violations
      comparators := s.comparators, sequencer := s.sequencer, capture := s.capture, link := s.link
      flags := s.flags, port := s.port, upstream := s.upstream, tld := s.tld, mdo := s.mdo
      freeCount := s.freeCount } = s

/-- BUS_RESET: the in-flight list and the presented request are discarded without a response, a stall wait ends, an
open lock breaks silently, its reservation is released and a waiting command is installed with COMMIT_DONE; nothing
else changes. While BRST stays asserted no request is accepted and downstream responses are discarded. The model's
choices: log entries 9 (a BUS_RESET while BRST is asserted applies R20 again) and 3 (an ACCEPTANCE that cannot arise,
BRST being asserted, changes nothing). -/
def Obligations.BusResetDiscardsTheBus : Prop :=
  ∀ s : State, ∃ t, exec .busReset s = .next t ∧
    t.brst = true ∧
    t.tracker =
      { inFlight := [], presented := none, ordinal := s.tracker.ordinal, lock := none, stall := none } ∧
    t.capture = { s.capture with reserved := false } ∧
    (s.tracker.lock = none ∨ s.port.slot = none →
      t.table = s.table ∧ t.guardUnit = s.guardUnit ∧ t.flags = s.flags ∧ t.port = s.port) ∧
    (∀ w, s.tracker.lock ≠ none → s.port.slot = some w →
      t.table = (s.install w.command).table ∧ t.guardUnit = (s.install w.command).guardUnit ∧
      t.flags = { s.flags with events := s.flags.events ||| 0x0400#16 } ∧
      t.port =
        { s.port with
          slot := none
          last := { outcome := .installed, code := w.command.code.byte, tag := w.tag } }) ∧
    { t with
      brst := s.brst, tracker := s.tracker, capture := s.capture, table := s.table, guardUnit := s.guardUnit
      flags := s.flags, port := s.port } = s ∧
    (∀ r, exec (.presentedRequest r) t = .next { t with tracker := { t.tracker with presented := some r } }) ∧
    (∀ u : State, u.brst = true →
      exec .acceptance u = .next u ∧ ∀ status data, exec (.downstreamResponse status data) u = .next u)

/-! ## Maintenance port -/

/-- NULL frames make no response: each shifts the same held response out again, and nothing else changes. -/
def Obligations.NullFramesRepeatTheHeldResponse : Prop :=
  ∀ (s : State) (tags : List Tag), tags ≠ [] →
    runAll (tags.map .null) s =
      .next
        { s with
          port := { s.port with receiver := [] }
          mdo :=
            List.replicate tags.length ((bitsOfBytes s.port.held.bytes ++ List.replicate 24 false).take 24)
              ++ s.mdo }

/-- A bad frame is not acted on: its BAD_FRAME response, with the tag and the code as received, replaces the held
response, and nothing else changes. -/
def Obligations.BadFramesAreNotActedOn : Prop :=
  ∀ (s : State) (bits : List Bool) (reason : SubReason), frameFailure bits = some reason →
    exec (.badFrame bits) s =
      .next
        (let framed := s.framed bits.length
         { framed with
          port :=
            { framed.port with
              held :=
                { status := .badFrame
                  tag := if 16 ≤ bits.length then (byteOfBits ((bits.drop 8).take 8)).extractLsb' 4 4 else 0#4
                  code := if 8 ≤ bits.length then byteOfBits (bits.take 8) else 0x00#8
                  result :=
                    [match reason with | .length => 0x01#8 | .code => 0x02#8 | .check => 0x03#8] } } })

/-- The checks on a received frame, in order: an unknown code, the length, the CRC-8, the low bits of the tag byte.
A frame that fails one is BAD_FRAME; one that fails none is the command that its code, its tag and its argument
bytes spell, whatever the argument bits of no use hold (log entry 19); as a BAD_FRAME it changes nothing (the
model's choice, log entry 3). -/
def Obligations.FrameChecksAreMadeInOrder : Prop :=
  ∀ bits : List Bool,
    let bytes := wholeBytes bits
    let first := byteOfBits (bits.take 8)
    (bits.length < 8 → frameFailure bits = some .length) ∧
    (8 ≤ bits.length → (∀ code : Code, code.byte ≠ first) → frameFailure bits = some .code) ∧
    (∀ code : Code, 8 ≤ bits.length → code.byte = first →
      (bits.length ≠ 8 * code.frameLength → frameFailure bits = some .length) ∧
      (bits.length = 8 * code.frameLength →
        bytes.length = code.frameLength ∧
        (bytes.getLast? ≠ some (crc8 bytes.dropLast) → frameFailure bits = some .check) ∧
        (bytes.getLast? = some (crc8 bytes.dropLast) →
          ((bytes.getD 1 0#8).setWidth 4 ≠ 0#4 → frameFailure bits = some .code) ∧
          ((bytes.getD 1 0#8).setWidth 4 = 0#4 →
            frameFailure bits = none ∧
            (let tag := (bytes.getD 1 0#8).extractLsb' 4 4
             commandOfFrame bits = commandOf code tag (bytes.drop 2).dropLast ∧
             ∃ args, frameParts (commandOfFrame bits) = some (code, tag, args)))))) ∧
    (frameFailure bits ≠ none → commandOfFrame bits = .badFrame bits) ∧
    (frameFailure bits = none → ∀ s, exec (.badFrame bits) s = .next s)

/-- The CRC-8 of a frame with its check byte is 00h for that byte alone, and the CRC-16 of a frame with its two check
bytes is 0 for those bytes alone. -/
def Obligations.CheckValuesVanishOnIntactFramesAlone : Prop :=
  (∀ (bytes : List Byte) (b : Byte), crc8 (bytes ++ [b]) = 0#8 ↔ b = crc8 bytes) ∧
  (∀ (bytes : List Byte) (b1 b2 : Byte),
    crc16 (bytes ++ [b1, b2]) = 0#16 ↔ [b1, b2] = bytesBE 2 (crc16 bytes).toNat)

/-- Every maintenance command, with its tag and its operands at any values, is the command its own frame spells: the
frame has the length of Table 10-1, begins with the code and the tag, and passes every check. -/
def Obligations.MaintenanceFramesRoundTrip : Prop :=
  ∀ (c : Instr) (code : Code) (tag : Tag) (args : List Byte), frameParts c = some (code, tag, args) →
    ∃ rest, frameOf c = some (code.byte :: (tag ++ 0#4) :: rest) ∧
      2 + rest.length = code.frameLength ∧
      frameFailure (bitsOfBytes (code.byte :: (tag ++ 0#4) :: rest)) = none ∧
      commandOfFrame (bitsOfBytes (code.byte :: (tag ++ 0#4) :: rest)) = c

/-- Each maintenance command shifts out the response held before it, as far as its frame goes, and the response it makes
carries its tag and its code; a happening that is no frame leaves the held response and MDO as they are, but for a
power-on reset. -/
def Obligations.ResponsesLagOneFrame : Prop :=
  ∀ (c : Instr) (s t : State), exec c s = .next t →
    (∀ code tag args, frameParts c = some (code, tag, args) →
      t.mdo =
        (bitsOfBytes s.port.held.bytes ++ List.replicate (8 * code.frameLength) false).take (8 * code.frameLength)
          :: s.mdo ∧
      t.port.receiver = [] ∧
      (code = .null → t.port.held = s.port.held) ∧
      (code ≠ .null →
        t.port.held.tag = tag ∧ t.port.held.code = code.byte ∧ t.port.held.status ≠ .badFrame)) ∧
    (frameParts c = none → (∀ bits, c ≠ .badFrame bits) → (∀ gstrap, c ≠ .powerOnReset gstrap) →
      t.mdo = s.mdo ∧ t.port.held = s.port.held ∧ t.port.receiver = s.port.receiver)

/-- A maintenance command answered REFUSED or BUSY changes nothing but the held response and what MDO has carried; a
refusal carries exactly one reason, BUSY the code and the tag of the waiting command. -/
def Obligations.RefusedAndBusyCommandsChangeNothing : Prop :=
  ∀ (c : Instr) (code : Code) (tag : Tag) (args : List Byte) (s t : State),
    frameParts c = some (code, tag, args) → code ≠ .null → exec c s = .next t →
      (t.port.held.status = .refused →
        SameButForTheAnswer s t ∧ ∃ reason, t.port.held.result = [codeOfRefusal reason]) ∧
      (t.port.held.status = .busy →
        SameButForTheAnswer s t ∧ code ∈ [.commitRegion, .retireRegion, .setDefault, .setMode] ∧
          ∃ w, s.port.slot = some w ∧ t.port.held.result = [w.command.code.byte, w.tag ++ 0#4])

/-! ## Policy commands -/

/-- COMMIT_REGION: BUSY while another command waits; else the tests of Table 2-2 in order; else the staged image
replaces the named slot at once and the slot is valid, or, while a lock is open, the command waits with a copy of the
image. -/
def Obligations.CommitRegionTestsThenInstallsOrWaits : Prop :=
  ∀ (tag : Tag) (slot : BitVec 8) (s : State),
    let answers (t : State) := exec (.commitRegion tag slot) s = .next t
    let refused (reason : Byte) := s.responded 4 .refused tag 0x12#8 [reason]
    (∀ w, s.port.slot = some w →
      answers (s.responded 4 .busy tag 0x12#8 [w.command.code.byte, w.tag ++ 0#4])) ∧
    (s.port.slot = none →
      (s.guardUnit.lockdown = true → answers (refused 0x06#8)) ∧
      (s.guardUnit.lockdown = false →
        (16 ≤ slot.toNat → answers (refused 0x01#8)) ∧
        ∀ i : Fin 16, slot.toNat = i.val →
          (s.table.staging = none → answers (refused 0x05#8)) ∧
          ∀ image, s.table.staging = some image →
            (image.limit < image.base → answers (refused 0x02#8)) ∧
            (image.base ≤ image.limit →
              (image.initiators = 0#8 → answers (refused 0x03#8)) ∧
              (image.initiators ≠ 0#8 →
                ((∃ j, j ≠ i ∧ (s.table.slots.get j).valid = true ∧
                    (s.table.slots.get j).image.priority = image.priority) →
                  answers (refused 0x04#8)) ∧
                ((∀ j, j ≠ i → (s.table.slots.get j).valid = true →
                    (s.table.slots.get j).image.priority ≠ image.priority) →
                  (s.tracker.lock = none →
                    answers
                      (State.responded
                        { s with
                          table := { s.table with slots := s.table.slots.set i.val { valid := true, image } i.isLt } }
                        4 .ok tag 0x12#8 [])) ∧
                  (s.tracker.lock ≠ none →
                    answers
                      (State.responded
                        { s with port := { s.port with slot := some { tag, command := .commitRegion i image } } }
                        4 .pending tag 0x12#8 [])))))))

/-- RETIRE_REGION: BUSY, LOCKED_DOWN, BAD_SLOT, else the slot's valid field becomes no with its other fields kept, at once
or, while a lock is open, later. -/
def Obligations.RetireRegionTestsThenInstallsOrWaits : Prop :=
  ∀ (tag : Tag) (slot : BitVec 8) (s : State),
    let answers (t : State) := exec (.retireRegion tag slot) s = .next t
    (∀ w, s.port.slot = some w →
      answers (s.responded 4 .busy tag 0x13#8 [w.command.code.byte, w.tag ++ 0#4])) ∧
    (s.port.slot = none →
      (s.guardUnit.lockdown = true → answers (s.responded 4 .refused tag 0x13#8 [0x06#8])) ∧
      (s.guardUnit.lockdown = false →
        (16 ≤ slot.toNat → answers (s.responded 4 .refused tag 0x13#8 [0x01#8])) ∧
        ∀ i : Fin 16, slot.toNat = i.val →
          (s.tracker.lock = none →
            answers
              (State.responded
                { s with
                  table :=
                    { s.table with
                      slots := s.table.slots.set i.val { s.table.slots.get i with valid := false } i.isLt } }
                4 .ok tag 0x13#8 [])) ∧
          (s.tracker.lock ≠ none →
            let waiting : State := { s with port := { s.port with slot := some { tag, command := .retireRegion i } } }
            answers (waiting.responded 4 .pending tag 0x13#8 []) ∧
            waiting.installPending.table =
              { s.table with
                slots := s.table.slots.set i.val { s.table.slots.get i with valid := false } i.isLt })))

/-- SET_DEFAULT: BUSY, LOCKED_DOWN, BAD_ARGUMENT for a field out of range, else the default record that the carried fields
encode and the fill pattern are replaced together, at once or, while a lock is open, later. -/
def Obligations.SetDefaultTestsThenInstallsOrWaits : Prop :=
  ∀ (tag : Tag) (carried : AttributeArgs) (fill : BitVec 32) (s : State),
    let answers (t : State) := exec (.setDefault tag carried fill) s = .next t
    (∀ w, s.port.slot = some w →
      answers (s.responded 9 .busy tag 0x15#8 [w.command.code.byte, w.tag ++ 0#4])) ∧
    (s.port.slot = none →
      (s.guardUnit.lockdown = true → answers (s.responded 9 .refused tag 0x15#8 [0x06#8])) ∧
      (s.guardUnit.lockdown = false →
        (¬AttributesInRange carried → answers (s.responded 9 .refused tag 0x15#8 [0x0D#8])) ∧
        (AttributesInRange carried →
          ∃ a, argsOfAttributes a = carried ∧
            (s.tracker.lock = none →
              answers
                (State.responded { s with table := { s.table with defaults := a, fill } } 9 .ok tag 0x15#8 [])) ∧
            (s.tracker.lock ≠ none →
              let waiting : State :=
                { s with port := { s.port with slot := some { tag, command := .setDefault a fill } } }
              answers (waiting.responded 9 .pending tag 0x15#8 []) ∧
              waiting.installPending.table = { s.table with defaults := a, fill }))))

/-- SET_MODE: BUSY, LOCKED_DOWN, BAD_ARGUMENT for a mode above 2 or an escalate value above 1, else the mode and the
escalate setting are written together, at once or, while a lock is open, later. -/
def Obligations.SetModeTestsThenInstallsOrWaits : Prop :=
  ∀ (tag : Tag) (mode escalate : BitVec 8) (s : State),
    let answers (t : State) := exec (.setMode tag mode escalate) s = .next t
    (∀ w, s.port.slot = some w →
      answers (s.responded 5 .busy tag 0x21#8 [w.command.code.byte, w.tag ++ 0#4])) ∧
    (s.port.slot = none →
      (s.guardUnit.lockdown = true → answers (s.responded 5 .refused tag 0x21#8 [0x06#8])) ∧
      (s.guardUnit.lockdown = false →
        (3 ≤ mode.toNat ∨ 2 ≤ escalate.toNat → answers (s.responded 5 .refused tag 0x21#8 [0x0D#8])) ∧
        (mode.toNat ≤ 2 → escalate.toNat ≤ 1 →
          ∃ m : Mode, codeOfMode m = mode ∧
            (s.tracker.lock = none →
              answers
                (State.responded
                  { s with guardUnit := { s.guardUnit with mode := m, escalate := escalate == 1#8 } }
                  5 .ok tag 0x21#8 [])) ∧
            (s.tracker.lock ≠ none →
              let waiting : State :=
                { s with port := { s.port with slot := some { tag, command := .setMode m (escalate == 1#8) } } }
              answers (waiting.responded 5 .pending tag 0x21#8 []) ∧
              waiting.installPending.guardUnit =
                { s.guardUnit with mode := m, escalate := escalate == 1#8 }))))

/-- The installation of a waiting command: it writes what an immediate installation writes, but a SET_MODE in LOCKDOWN
writes nothing; it sets COMMIT_DONE, records INSTALLED with the command's code and tag, and empties the slot. -/
def Obligations.WaitingCommandIsInstalledWhole : Prop :=
  ∀ s : State,
    (s.port.slot = none → s.installPending = s) ∧
    ∀ (tag : Tag) (command : PolicyCommand), s.port.slot = some { tag, command } →
      let done (code : Byte) (u : State) : State :=
        { u with
          flags := { s.flags with events := s.flags.events ||| 0x0400#16 }
          port := { s.port with slot := none, last := { outcome := .installed, code, tag } } }
      (∀ i image, command = .commitRegion i image →
        s.installPending =
          done 0x12#8
            { s with table := { s.table with slots := s.table.slots.set i.val { valid := true, image } i.isLt } }) ∧
      (∀ i, command = .retireRegion i →
        s.installPending =
          done 0x13#8
            { s with
              table :=
                { s.table with
                  slots := s.table.slots.set i.val { s.table.slots.get i with valid := false } i.isLt } }) ∧
      (∀ a fill, command = .setDefault a fill →
        s.installPending = done 0x15#8 { s with table := { s.table with defaults := a, fill } }) ∧
      (∀ mode escalate, command = .setMode mode escalate →
        s.installPending =
          done 0x21#8
            (if s.guardUnit.lockdown then s
             else { s with guardUnit := { s.guardUnit with mode, escalate } }))

/-- ABORT_PENDING: NOTHING_PENDING with an empty slot; else the waiting command is discarded, recorded as ABORTED, and its
code and tag are returned. -/
def Obligations.AbortPendingDiscardsTheWaitingCommand : Prop :=
  ∀ (tag : Tag) (s : State),
    (s.port.slot = none → exec (.abortPending tag) s = .next (s.responded 3 .refused tag 0x24#8 [0x0C#8])) ∧
    (∀ w, s.port.slot = some w →
      exec (.abortPending tag) s =
        .next
          (State.responded
            { s with
              port := { s.port with
                slot := none
                last := { outcome := .aborted, code := w.command.code.byte, tag := w.tag } } }
            3 .ok tag 0x24#8 [w.command.code.byte, w.tag ++ 0#4]))

/-! ## Reading the state -/

/-- READ_GUARD, QUERY_PENDING, READ_SEQUENCER, READ_CAPTURE and READ_FLAGS are answered OK in every state, report the
fields of Tables 10-7, 10-4 and 6-4 and of R130 and R159 at the places of Table 11-7, and change nothing else. -/
def Obligations.ReadsOfWholeBlocksReportAndChangeNothing : Prop :=
  ∀ (tag : Tag) (s : State),
    exec (.readGuard tag) s =
      .next
        (s.responded 3 .ok tag 0x22#8
          ([codeOfMode s.guardUnit.mode,
            0#5 ++ BitVec.ofBool (s.guardUnit.strap = .high) ++ BitVec.ofBool s.guardUnit.lockdown
              ++ BitVec.ofBool s.guardUnit.escalate,
            match s.tracker.lock with
            | none => 0x00#8
            | some l => (if l.traceDropped then 0x80#8 else 0x00#8) + if l.absorbed then 0x02#8 else 0x01#8,
            BitVec.ofNat 8 s.tracker.inFlight.length]
            ++ bytesBE 4 s.tracker.ordinal.toNat ++ [BitVec.ofNat 8 s.violations.records.length]
            ++ bytesBE 2 s.violations.overflow.toNat)) ∧
    exec (.queryPending tag) s =
      .next
        (s.responded 3 .ok tag 0x23#8
          ((match s.port.slot with
            | none => [0x00#8, 0x00#8, 0x00#8]
            | some w => [0x01#8, w.command.code.byte, w.tag ++ 0#4])
            ++ [codeOfLastOutcome s.port.last.outcome, s.port.last.code, s.port.last.tag ++ 0#4])) ∧
    exec (.readSequencer tag) s =
      .next
        (s.responded 3 .ok tag 0x54#8
          ((match s.sequencer.state with
            | .disarmed => [0x00#8, 0x00#8, 0x00#8, 0x00#8]
            | .armed k r => [0x01#8, BitVec.ofNat 8 k.val] ++ bytesBE 2 r.toNat
            | .done => [0x02#8, 0x00#8, 0x00#8, 0x00#8])
            ++ bytesOfStep (argsOfStep (s.sequencer.steps.get 0))
            ++ bytesOfStep (argsOfStep (s.sequencer.steps.get 1))
            ++ bytesOfStep (argsOfStep (s.sequencer.steps.get 2))
            ++ bytesOfStep (argsOfStep (s.sequencer.steps.get 3)) ++ [0#4 ++ s.sequencer.restart])) ∧
    exec (.readCapture tag) s =
      .next
        (s.responded 3 .ok tag 0x62#8
          ([codeOfCaptureMode s.capture.mode, codeOfYesNo s.capture.on, 0#4 ++ s.capture.filter,
            codeOfYesNo s.capture.readData, codeOfYesNo s.capture.writeData, codeOfPolicy s.capture.policy]
            ++ bytesBE 2 s.capture.limit.toNat
            ++ [BitVec.ofNat 8 s.capture.buffer.length, if s.capture.reserved then 2#8 else 0#8]
            ++ bytesBE 2 s.capture.loss.toNat ++ bytesBE 2 s.capture.sequence.toNat)) ∧
    exec (.readFlags tag) s =
      .next
        (s.responded 3 .ok tag 0x81#8
          (bytesBE 2 s.flagWord.toNat ++ bytesBE 2 s.flags.enables.toNat ++ [BitVec.ofNat 8 s.causeCode]))

/-- READ_REGION, READ_VIOLATION and READ_COMPARATOR return the image or record named, or refuse a selector, a position or
a number out of range, and change nothing else. -/
def Obligations.ReadsByNumberReportAndChangeNothing : Prop :=
  ∀ (tag : Tag) (n : BitVec 8) (s : State),
    (∀ i : Fin 16, n.toNat = i.val →
      exec (.readRegion tag n) s =
        .next
          (s.responded 4 .ok tag 0x14#8
            (codeOfYesNo (s.table.slots.get i).valid :: bytesOfRegion (argsOfRegion (s.table.slots.get i).image)))) ∧
    (n = 0x10#8 →
      exec (.readRegion tag n) s =
        .next
          (s.responded 4 .ok tag 0x14#8
            (match s.table.staging with
             | some image => 0x01#8 :: bytesOfRegion (argsOfRegion image)
             | none => List.replicate 13 0x00#8))) ∧
    (n = 0x11#8 →
      exec (.readRegion tag n) s =
        .next
          (s.responded 4 .ok tag 0x14#8
            ([0x00#8] ++ bytesBE 4 s.table.fill.toNat ++ List.replicate 6 0x00#8
              ++ bytesOfAttributes (argsOfAttributes s.table.defaults)))) ∧
    (0x12 ≤ n.toNat → exec (.readRegion tag n) s = .next (s.responded 4 .refused tag 0x14#8 [0x01#8])) ∧
    (8 ≤ n.toNat → exec (.readViolation tag n) s = .next (s.responded 4 .refused tag 0x31#8 [0x0D#8])) ∧
    (n.toNat < 8 → s.violations.records.length ≤ n.toNat →
      exec (.readViolation tag n) s = .next (s.responded 4 .refused tag 0x31#8 [0x0E#8])) ∧
    (∀ h : n.toNat < s.violations.records.length, n.toNat < 8 →
      let v := s.violations.records[n.toNat]
      exec (.readViolation tag n) s =
        .next
          (s.responded 4 .ok tag 0x31#8
            (bytesBE 4 v.first.toNat ++ bytesBE 4 v.last.toNat ++ bytesBE 5 v.address.toNat
              ++ [codeOfSize v.size,
                  bitOfDirection v.direction ++ bitOfKind v.kind ++ bitOfPrivilege v.privilege ++ 0#2
                    ++ v.initiator,
                  codeOfMatched v.matched, codeOfReason v.reason, codeOfActionTaken v.actionTaken, v.count,
                  BitVec.ofNat 8 s.violations.records.length]))) ∧
    (4 ≤ n.toNat → exec (.readComparator tag n) s = .next (s.responded 4 .refused tag 0x42#8 [0x0D#8])) ∧
    (∀ i : Fin 4, n.toNat = i.val →
      exec (.readComparator tag n) s =
        .next (s.responded 4 .ok tag 0x42#8 (bytesOfComparator (argsOfComparator (s.comparators.get i)))))

/-! ## Region table -/

/-- STAGE_REGION, in every state: an image with a field out of range is refused; else the image that the carried fields
encode replaces the staging record. -/
def Obligations.StageRegionReplacesTheStagingRecord : Prop :=
  ∀ (tag : Tag) (carried : RegionArgs) (s : State),
    (¬RegionInRange carried →
      exec (.stageRegion tag carried) s = .next (s.responded 15 .refused tag 0x11#8 [0x0D#8])) ∧
    (RegionInRange carried →
      ∃ image, argsOfRegion image = carried ∧
        exec (.stageRegion tag carried) s =
          .next
            (State.responded { s with table := { s.table with staging := some image } } 15 .ok tag 0x11#8 []))

/-- Matching and the deciding entry: an entry matches when it is valid, the granule of the address lies in its range and
the initiator is in its set; the deciding entry is a matching one that no matching one outranks, and is the only one
where priorities are unique; with none, the default record decides. -/
def Obligations.DecidingEntryHasTheLowestPriorityNumber : Prop :=
  ∀ (t : RegionTable) (r : Request),
    let matching (i : Fin 16) : Prop :=
      (t.slots.get i).valid = true ∧ (t.slots.get i).image.base.toNat ≤ r.address.toNat / 64 ∧
        r.address.toNat / 64 ≤ (t.slots.get i).image.limit.toNat ∧
        (t.slots.get i).image.initiators.getLsbD r.initiator.toNat = true
    let priority (i : Fin 16) : Nat := (t.slots.get i).image.priority.toNat
    (∀ i, matching i → (∀ j, matching j → j ≠ i → priority i < priority j) →
      t.decidingRecord r = (.slot i, (t.slots.get i).image.attributes)) ∧
    ((∀ i, ¬matching i) → t.decidingRecord r = (.default, t.defaults)) ∧
    (∀ i, matching i →
      ∃ j, matching j ∧ (∀ k, matching k → priority j ≤ priority k) ∧
        t.decidingRecord r = (.slot j, (t.slots.get j).image.attributes))

/-! ## Classification -/

/-- The malformed tests (R3, R4): alignment first, then kind, then the lock sequence against the lock as it stands; and
the span of a well-formed request lies inside its granule. -/
def Obligations.MalformedReasonsComeInOrder : Prop :=
  ∀ (lock : Option Lock) (r : Request),
    let wrongKind := (r.kind = .fetch ∧ r.direction = .write) ∨ (r.lock = true ∧ (r.size.isBurst = true ∨ r.kind = .fetch))
    (¬r.size.length ∣ r.address.toNat → malformedReason lock r = some .malformedAlign) ∧
    (r.size.length ∣ r.address.toNat → wrongKind → malformedReason lock r = some .malformedKind) ∧
    (r.size.length ∣ r.address.toNat → ¬wrongKind →
      (r.lock = false → malformedReason lock r = none) ∧
      (r.lock = true →
        (lock = none → r.direction = .write → malformedReason lock r = some .lockSequence) ∧
        (lock = none → r.direction = .read → malformedReason lock r = none) ∧
        (∀ l, lock = some l → Matches l r → malformedReason lock r = none) ∧
        (∀ l, lock = some l → ¬Matches l r → malformedReason lock r = some .lockSequence)) ∧
      r.lastByte = r.address.toNat + r.size.length - 1 ∧ r.lastByte / 64 = (granuleOf r.address).toNat)

/-- The rights check of Table 3-4, for a well-formed request. -/
def Obligations.RightsCheckFollowsItsTable : Prop :=
  ∀ (a : Attributes) (r : Request), r.malformed = none →
    let rights := match r.privilege with | .user => a.userRights | .supervisor => a.supervisorRights
    let fetch := match r.privilege with | .user => a.userFetch | .supervisor => a.supervisorFetch
    (r.kind = .fetch → a.check r = if fetch then none else some .fetchDenied) ∧
    (r.kind = .data → r.direction = .read → r.lock = false →
      a.check r = if rights = .none then some .readDenied else none) ∧
    (r.kind = .data → r.direction = .read → r.lock = true →
      a.check r = if rights = .readWrite then none else some .lockedWriteDenied) ∧
    (r.kind = .data → r.direction = .write →
      a.check r = if rights = .readWrite then none else some .writeDenied)

/-- The verdict of each mode: in BYPASS always the same; else matched and class are the deciding record's, the reason is the
first of Table 3-1, and the action is PASS without a reason, PASSED_MONITOR in MONITOR, and that of Table 3-2 in
ENFORCE. -/
def Obligations.VerdictsFollowTheMode : Prop :=
  ∀ (s : State) (malformed : Option Reason) (r : Request),
    let v := s.classify malformed r
    let decided := s.table.decidingRecord r
    let permitted := decided.2.check r
    (s.guardUnit.mode = .bypass →
      v = { matched := .none, action := .bypass, reason := none, traceClass := 0#2 }) ∧
    (s.guardUnit.mode ≠ .bypass →
      v.matched = decided.1 ∧ v.traceClass = decided.2.traceClass ∧
      (∀ reason, malformed = some reason → v.reason = some reason) ∧
      (malformed = none →
        (s.guardUnit.mode = .enforce ∧ s.guardUnit.lockdown = true ∧ r.direction = .write →
          v.reason = some .lockdownWrite) ∧
        (s.guardUnit.mode ≠ .enforce ∨ s.guardUnit.lockdown = false ∨ r.direction = .read → v.reason = permitted)) ∧
      (v.reason = none → v.action = .pass) ∧
      (v.reason ≠ none → s.guardUnit.mode = .monitor → v.action = .passedMonitor) ∧
      (∀ reason, v.reason = some reason → s.guardUnit.mode = .enforce →
        v.action =
          if (reason = .readDenied ∨ reason = .writeDenied ∨ reason = .lockedWriteDenied) ∧
              decided.2.denyAction = .absorb then .absorb
          else .refuse))

/-- The results the part gives itself (R51, R52): ERROR without data for a refused transaction; OKAY for an absorbed one, a
READ with the fill pattern in each beat as Table 3-5 lays it; none for a forwarded one. -/
def Obligations.RefusedAndAbsorbedResultsAreTheParts : Prop :=
  ∀ (fill : BitVec 32) (v : Verdict) (r : Request),
    (v.action = .refuse → resultAtAcceptance fill v r = some { status := .error, data := [] }) ∧
    (v.action = .absorb → r.direction = .write →
      resultAtAcceptance fill v r = some { status := .okay, data := [] }) ∧
    (v.action = .absorb → r.direction = .read →
      ∃ data, resultAtAcceptance fill v r = some { status := .okay, data } ∧ data.length = r.size.beats ∧
        ∀ beat ∈ data, beat.toNat =
          match r.size with
          | .b1 => fill.toNat % 2 ^ 8
          | .b2 => fill.toNat % 2 ^ 16
          | .b4 => fill.toNat
          | .b8 | .burst2 | .burst4 | .burst8 => fill.toNat * 2 ^ 32 + fill.toNat) ∧
    (v.action = .pass ∨ v.action = .passedMonitor ∨ v.action = .bypass → resultAtAcceptance fill v r = none)

/-! ## Violation list -/

/-- The guard hands on a violation with an unconditional reason, and a denial whose deciding record has log yes; no
other (R53). What is handed on carries the transaction's fields, with repeat count 1. -/
def Obligations.GuardHandsOnLoggedViolations : Prop :=
  ∀ (s : State) (ordinal : Sys2Proof.Ordinal) (r : Request) (v : Verdict),
    (v.reason = none → s.handOn ordinal r v = s) ∧
    ∀ reason, v.reason = some reason →
      let denial :=
        reason = .readDenied ∨ reason = .writeDenied ∨ reason = .fetchDenied ∨ reason = .lockedWriteDenied
      (denial → (s.table.decidingRecord r).2.log = false → s.handOn ordinal r v = s) ∧
      (¬denial ∨ (s.table.decidingRecord r).2.log = true →
        s.handOn ordinal r v =
          s.takeViolation
            { first := ordinal, last := ordinal, address := r.address, size := r.size, direction := r.direction
              kind := r.kind, privilege := r.privilege, initiator := r.initiator, matched := v.matched, reason
              actionTaken :=
                match v.action with
                | .refuse => .refused
                | .absorb => .absorbed
                | .passedMonitor | .pass | .bypass => .passedMonitor
              count := 1#8 })

/-- The violation list joins a violation to the newest record where they are alike and its count is below 255, else appends
it where there is room, else counts it; the first overflow in ENFORCE with escalate yes moves the guard into LOCKDOWN. -/
def Obligations.ViolationsAreJoinedAppendedOrCounted : Prop :=
  ∀ (s : State) (v : Violation),
    let joinable (newest : Violation) : Prop := v.alike newest ∧ newest.count.toNat < 255
    (∀ older newest, s.violations.records = older ++ [newest] → joinable newest →
      s.takeViolation v =
        { s with
          violations := { s.violations with
            records := older ++ [{ newest with last := v.last, count := newest.count + 1#8 }] }
          flags := { s.flags with events := s.flags.events ||| 0x0008#16 } }) ∧
    ((∀ older newest, s.violations.records = older ++ [newest] → ¬joinable newest) →
      (s.violations.records.length < 8 →
        s.takeViolation v =
          { s with
            violations := { s.violations with records := s.violations.records ++ [v] }
            flags := { s.flags with events := s.flags.events ||| 0x0008#16 } }) ∧
      (8 ≤ s.violations.records.length →
        s.takeViolation v =
          { s with
            violations := { s.violations with
              overflow :=
                if s.violations.overflow = 65535#16 then 65535#16 else s.violations.overflow + 1#16 }
            flags := { s.flags with events := s.flags.events ||| 0x0004#16 }
            guardUnit := { s.guardUnit with
              lockdown :=
                s.guardUnit.lockdown || (s.guardUnit.mode = .enforce && s.guardUnit.escalate) } }))

/-- ACK_VIOLATION: BAD_ARGUMENT for a count of 0 or above 8, BAD_COUNT above the occupancy; else the oldest records are
removed and the overflow counter returns to 0 where none is left. -/
def Obligations.AckViolationRemovesTheOldestRecords : Prop :=
  ∀ (tag : Tag) (count : BitVec 8) (s : State),
    (count = 0#8 ∨ 8 < count.toNat →
      exec (.ackViolation tag count) s = .next (s.responded 4 .refused tag 0x32#8 [0x0D#8])) ∧
    (1 ≤ count.toNat → count.toNat ≤ 8 →
      (s.violations.records.length < count.toNat →
        exec (.ackViolation tag count) s = .next (s.responded 4 .refused tag 0x32#8 [0x07#8])) ∧
      (∀ removed left, s.violations.records = removed ++ left → removed.length = count.toNat →
        let overflow := if left = [] then 0#16 else s.violations.overflow
        exec (.ackViolation tag count) s =
          .next
            (State.responded { s with violations := { records := left, overflow } } 4 .ok tag 0x32#8
              (BitVec.ofNat 8 left.length :: bytesBE 2 overflow.toNat))))

/-! ## Transactions -/

/-- A presented request is accepted at once where its acceptance conditions hold, and else waits; one that waits is
accepted by ACCEPTANCE where they hold, and by BRST_RELEASE where they hold once BRST is released. A second request at
the port, an ACCEPTANCE or a BRST_RELEASE that cannot arise changes nothing: the model's choice, log entries 2, 3
and 17. -/
def Obligations.PresentedRequestIsAcceptedOrWaits : Prop :=
  ∀ (s : State) (r : Request),
    (s.tracker.presented = none →
      let waiting : State := { s with tracker := { s.tracker with presented := some r } }
      (¬Acceptable s r → exec (.presentedRequest r) s = .next waiting) ∧
      (Acceptable s r →
        ∃ t, exec (.presentedRequest r) s = .next t ∧ exec .acceptance waiting = .next t ∧
          t.tracker.presented = none ∧ t.tracker.ordinal = s.tracker.ordinal + 1#32) ∧
      exec .acceptance s = .next s ∧
      (s.brst = true → exec .brstRelease s = .next { s with brst := false })) ∧
    (s.tracker.presented = some r →
      (∀ second, exec (.presentedRequest second) s = .next s) ∧
      (¬Acceptable s r → exec .acceptance s = .next s) ∧
      (s.brst = true → ¬Acceptable { s with brst := false } r →
        exec .brstRelease s = .next { s with brst := false }) ∧
      (s.brst = true → Acceptable { s with brst := false } r →
        ∃ t, exec .brstRelease s = .next t ∧ exec .acceptance { s with brst := false } = .next t ∧
          t.tracker.presented = none ∧ t.brst = false)) ∧
    (s.brst = false → exec .brstRelease s = .next s)

/-- Acceptance with no lock open, of a request that opens none: it is classified on its own fields, and what the
list does with its violation is all that happens in the list, the guard and the flags. The model's inference, log
entry 2: a transaction the part answers itself completes at its own completion and not inside its acceptance. -/
def Obligations.AcceptanceWithNoLock : Prop :=
  ∀ (s : State) (r : Request), s.tracker.presented = some r → Acceptable s r → s.tracker.lock = none →
    (r.lock = false ∨ r.direction = .write ∨ r.malformed ≠ none) →
    let v := s.classify (malformedReason none r) r
    ∃ t, exec .acceptance s = .next t ∧
      AcceptedAs s s t r v .none ∧
      t.tracker.lock = none ∧ t.table = s.table ∧ t.port = s.port ∧ t.capture = s.capture ∧
      t.guardUnit = (s.handOn s.tracker.ordinal r v).guardUnit ∧
      t.flags = (s.handOn s.tracker.ordinal r v).flags

/-- A well-formed locked READ accepted with no lock open: refused, it opens none; else a lock opens, ABSORBED where
the read is absorbed and else OPEN, with the read's fields, and the hold lets no request be accepted. The model's
inference, log entry 2: a transaction the part answers itself completes at its own completion and not inside its
acceptance. -/
def Obligations.LockedReadOpensTheLock : Prop :=
  ∀ (s : State) (r : Request), s.tracker.presented = some r → Acceptable s r → s.tracker.lock = none →
    r.lock = true → r.direction = .read → r.malformed = none →
    let v := s.classify none r
    ∃ t, exec .acceptance s = .next t ∧
      AcceptedAs s s t r v (if v.action = .refuse then .none else .openingRead) ∧
      t.table = s.table ∧ t.port = s.port ∧ t.capture = s.capture ∧
      t.guardUnit = (s.handOn s.tracker.ordinal r v).guardUnit ∧
      t.flags = (s.handOn s.tracker.ordinal r v).flags ∧
      (v.action = .refuse → t.tracker.lock = none) ∧
      (v.action ≠ .refuse →
        t.tracker.lock =
          some
            { absorbed := v.action = .absorb, initiator := r.initiator, address := r.address, size := r.size
              matched := v.matched, traceClass := v.traceClass, outstanding := true, traceDropped := false } ∧
        ∀ q, ¬Acceptable t q)

/-- The matching locked write closes the lock after its verdict: that of the opening read, absorbed, under an
absorbed lock out of LOCKDOWN, and else its own. The reservation stays, the entry carries the trace-dropped marking,
LOCK_BROKEN is not set, and a waiting command is installed after the verdict. The model's inference, log entry 2: a
transaction the part answers itself completes at its own completion and not inside its acceptance. -/
def Obligations.MatchingWriteClosesTheLock : Prop :=
  ∀ (s : State) (r : Request) (l : Lock), s.tracker.presented = some r → Acceptable s r →
    s.tracker.lock = some l → r.malformed = none → Matches l r →
    let v : Verdict :=
      if l.absorbed = true ∧ s.guardUnit.lockdown = false then
        { matched := l.matched, action := .absorb, reason := none, traceClass := l.traceClass }
      else s.classify none r
    let handed := s.handOn s.tracker.ordinal r v
    ∃ t, exec .acceptance s = .next t ∧
      AcceptedAs s s t r v (.closingWrite l.traceDropped) ∧
      t.tracker.lock = none ∧ t.capture = s.capture ∧
      t.table = handed.installPending.table ∧ t.guardUnit = handed.installPending.guardUnit ∧
      t.flags = handed.installPending.flags ∧ t.port = handed.installPending.port

/-- Any other request breaks the lock: LOCK_BROKEN is set, the lock and the reservation end and a waiting command is
installed before the request is classified; it opens no lock. The model's inference, log entry 2: a transaction the
part answers itself completes at its own completion and not inside its acceptance. -/
def Obligations.MismatchedRequestBreaksTheLock : Prop :=
  ∀ (s : State) (r : Request) (l : Lock), s.tracker.presented = some r → Acceptable s r →
    s.tracker.lock = some l → (r.malformed ≠ none ∨ ¬Matches l r) →
    let broken : State :=
      { s with
        tracker := { s.tracker with lock := none }
        capture := { s.capture with reserved := false }
        flags := { s.flags with events := s.flags.events ||| 0x0800#16 } }
    let installed := broken.installPending
    let v := installed.classify (malformedReason (some l) r) r
    ∃ t, exec .acceptance s = .next t ∧
      AcceptedAs s installed t r v .none ∧
      t.tracker.lock = none ∧ t.capture = { s.capture with reserved := false } ∧
      t.table = installed.table ∧ t.port = installed.port ∧
      t.guardUnit = (installed.handOn s.tracker.ordinal r v).guardUnit ∧
      t.flags = (installed.handOn s.tracker.ordinal r v).flags

/-- A downstream response is stored in the oldest forwarded entry whose result is absent, with data only for a READ answered
OKAY; in the head it makes the head ready, and the head is judged as a completion judges it. With no such entry, or while
BRST is asserted, it is discarded. -/
def Obligations.DownstreamResponseIsStoredOrDiscarded : Prop :=
  ∀ (s : State) (status : BusStatus) (data : List Beat),
    let awaits (e : Entry) : Prop := e.forwarded = true ∧ e.result = none
    (s.brst = true → exec (.downstreamResponse status data) s = .next s) ∧
    ((∀ e ∈ s.tracker.inFlight, ¬awaits e) → exec (.downstreamResponse status data) s = .next s) ∧
    (∀ older e younger, s.brst = false → s.tracker.inFlight = older ++ e :: younger →
      (∀ x ∈ older, ¬awaits x) → awaits e →
      let answered : Entry :=
        { e with
          result := some
            { status, data := if e.request.direction = .read ∧ status = .okay then data else [] } }
      let stored : State :=
        { s with tracker := { s.tracker with inFlight := older ++ answered :: younger } }
      (older ≠ [] → exec (.downstreamResponse status data) s = .next stored) ∧
      (older = [] →
        ∃ t, exec (.downstreamResponse status data) s = .next t ∧ exec .completion stored = .next t))

/-- COMPLETION of a ready head: short under STALL it waits and nothing else changes; else its response is given, it
leaves the list, the sequencer steps, its records are stored or dropped, its events are handed on and a frame may
start. With no ready head nothing changes. The model's choices and inferences: log entries 2 (a next head that is
ready, and a waiting request, come at their own steps), 3 (no ready head) and 13 (TRACE_LOSS beside a LOSS record of
the same completion). -/
def Obligations.ReadyHeadCompletesOrWaits : Prop :=
  (∀ s : State, s.readyHead = none → exec .completion s = .next s) ∧
  ∀ (s : State) (e : Entry), s.readyHead = some e →
    let j := s.judgment e
    (j.fits = false → s.capture.policy = .stall →
      exec .completion s =
        .next { s with tracker := { s.tracker with stall := some (s.tracker.stall.getD 0) } }) ∧
    (j.fits = true ∨ s.capture.policy = .drop →
      ∃ t, exec .completion s = .next t ∧ CompletedAs s t e j.fits false)

/-- The stall limit runs out on a waiting head: it completes treated as short, whatever fits, and STALL_TIMEOUT is
set besides the flags of its completion; the reference timer stands at the limit of the wait. With no wait, or a
limit of 0, nothing runs out. The model's choices and inferences: log entries 2 (a next head that is ready, and a
waiting request, come at their own steps), 3 and 5. -/
def Obligations.StallLimitCompletesTheHeadAsShort : Prop :=
  (∀ s : State, s.tracker.stall = none ∨ s.capture.limit = 0#16 → exec .stallLimitRunsOut s = .next s) ∧
  ∀ (s : State) (e : Entry) (count : Nat),
    s.readyHead = some e → s.tracker.stall = some count → s.capture.limit ≠ 0#16 →
    ∃ t, exec .stallLimitRunsOut s = .next t ∧ t.flagSet .stallTimeout = true ∧
      CompletedAs { s with refTimer := s.refTimer + (s.capture.limit.toNat - count) } t e false true

/-! ## Trace -/

/-- A comparator is in the match set exactly if it is USED and every test passes (R78 to R83); an enabled window
passes by intersection with the span. The model's choice, log entry 21: a forwarded single-beat FETCH WRITE answered
ERROR has its write data as seen upstream. -/
def Obligations.MatchSetHoldsTheComparatorsThatMatch : Prop :=
  ∀ (bank : Vector Comparator 4) (e : Entry) (n : Fin 4),
    let c := bank.get n
    let r := e.request
    let last := min (r.address.toNat + r.size.length - 1) (2 ^ 36 - 1)
    let overlaps : Prop := r.address.toNat ≤ c.windowHigh.toNat ∧ c.windowLow.toNat ≤ last
    let filters : Prop :=
      (c.direction = none ∨ c.direction = some r.direction) ∧ (c.kind = none ∨ c.kind = some r.kind) ∧
      (c.privilege = none ∨ c.privilege = some r.privilege) ∧ c.initiators.getLsbD r.initiator.toNat = true
    let verdict : Prop :=
      (c.verdict = none ∨ (c.verdict = some .allowed ∧ e.verdict.reason = none) ∨
        (c.verdict = some .denied ∧ e.verdict.reason ≠ none)) ∧
      c.classes.getLsbD e.verdict.traceClass.toNat = true
    let agrees (v : Beat) : Prop :=
      ∀ i, i < 8 * r.size.beatBytes → c.dataMask.getLsbD i = true → v.getLsbD i = c.dataValue.getLsbD i
    let data : Prop :=
      c.dataEnable = false ∨ ∃ v, DataSeenUpstream e v ∧ (agrees v ↔ c.dataInvert = false)
    ((matchSet bank e).getLsbD n = true ↔
      c.used = true ∧ (c.windowEnable = false ∨ overlaps) ∧ filters ∧ verdict ∧ data) ∧
    (c.windowLow ≤ c.windowHigh →
      (overlaps ↔
        ∃ a, c.windowLow.toNat ≤ a ∧ a ≤ c.windowHigh.toNat ∧ r.address.toNat ≤ a ∧ a ≤ last))

/-- LOAD_COMPARATOR, its tests in order; a USED image replaces every field of the comparator, an UNUSED one loads the
cleared image. A head in a stall wait is judged again. -/
def Obligations.LoadComparatorTestsThenReplacesTheImage : Prop :=
  ∀ (tag : Tag) (number : BitVec 8) (image : ComparatorArgs) (s : State),
    let answer := exec (.loadComparator tag number image) s
    let refused (reason : Byte) : Prop := answer = .next (s.responded 36 .refused tag 0x41#8 [reason])
    let loads (i : Fin 4) (c : Comparator) : Prop :=
      let loaded :=
        State.responded { s with comparators := s.comparators.set i.val c i.isLt } 36 .ok tag 0x41#8 []
      answer = if s.tracker.stall = none then .next loaded else exec .completion loaded
    (4 ≤ number.toNat → refused 0x0D#8) ∧
    ∀ i : Fin 4, number.toNat = i.val →
      ((∃ k r, s.sequencer.state = .armed k r) → refused 0x08#8) ∧
      ((∀ k r, s.sequencer.state ≠ .armed k r) →
        (image.use = 0#8 →
          loads i
            { used := false, windowEnable := false, windowLow := 0#36, windowHigh := 0#36, direction := none
              kind := none, privilege := none, initiators := 0xFF#8, verdict := none, classes := 0xF#4
              dataEnable := false, dataValue := 0#64, dataMask := 0#64, dataInvert := false }) ∧
        (image.use = 1#8 → ComparatorSound image → ∃ c, argsOfComparator c = image ∧ loads i c) ∧
        (image.use = 1#8 → ¬ComparatorSound image → refused 0x0D#8) ∧
        (2 ≤ image.use.toNat → refused 0x0D#8))

/-- Stepping on a completed transaction (R97 to R100): nothing in DISARMED and DONE; in ARMED(k, r) with k above 0 the
restart set first; then a satisfied step counts, or fires on its last count and the sequencer moves on. -/
def Obligations.SequencerStepsOnMatchSets : Prop :=
  ∀ (q : Sequencer) (m : ComparatorSet),
    ((∀ k r, q.state ≠ .armed k r) → q.step m = (q.state, .none)) ∧
    ∀ k r, q.state = .armed k r →
      let x := q.steps.get k
      let restarts : Prop := k ≠ 0 ∧ ∃ n : Fin 4, q.restart.getLsbD n = true ∧ m.getLsbD n = true
      (restarts → q.step m = (.armed 0 (q.steps.get 0).count, .restart)) ∧
      (¬restarts →
        (¬Satisfies m x → q.step m = (.armed k r, .none)) ∧
        (Satisfies m x → 1 < r.toNat → q.step m = (.armed k (r - 1#16), .counted)) ∧
        (Satisfies m x → r = 1#16 → x.last = true → q.step m = (.done, .fired k x.actions true)) ∧
        (Satisfies m x → r = 1#16 → x.last = false → ∀ next : Fin 4, next.val = k.val + 1 →
          q.step m = (.armed next (q.steps.get next).count, .fired k x.actions false)))

/-- LOAD_STEP, its tests in order; a DEFINED image replaces every field of the step, an UNDEFINED one loads the cleared
step image, number 4 replaces the restart set. -/
def Obligations.LoadStepTestsThenReplacesTheImage : Prop :=
  ∀ (tag : Tag) (number : BitVec 8) (image : StepArgs) (s : State),
    let answer := exec (.loadStep tag number image) s
    let refused (reason : Byte) : Prop := answer = .next (s.responded 9 .refused tag 0x51#8 [reason])
    let loads (k : Fin 4) (x : ProgramStep) : Prop :=
      answer =
        .next
          (State.responded
            { s with sequencer := { s.sequencer with steps := s.sequencer.steps.set k.val x k.isLt } }
            9 .ok tag 0x51#8 [])
    let sound : Prop := image.combine.toNat ≤ 1 ∧ image.count ≠ 0#16 ∧ image.last.toNat ≤ 1
    (5 ≤ number.toNat → refused 0x0D#8) ∧
    (number.toNat ≤ 4 → (∃ k r, s.sequencer.state = .armed k r) → refused 0x08#8) ∧
    ((∀ k r, s.sequencer.state ≠ .armed k r) →
      (number = 4#8 →
        answer =
          .next
            (State.responded { s with sequencer := { s.sequencer with restart := image.condition } }
              9 .ok tag 0x51#8 [])) ∧
      ∀ k : Fin 4, number.toNat = k.val →
        (image.defined = 0#8 →
          loads k
            { defined := false, condition := 0#4, combine := .any, count := 1#16
              actions := { captureOn := false, captureOff := false, mark := false, alert := false }
              last := false }) ∧
        (image.defined = 1#8 → sound → ∃ x, argsOfStep x = image ∧ loads k x) ∧
        (image.defined = 1#8 → ¬sound → refused 0x0D#8) ∧
        (2 ≤ image.defined.toNat → refused 0x0D#8))

/-- ARM is refused while ARMED, then with a program that is not valid; else it enters ARMED(0, count of S0), and in mode
SEQUENCED sets the capture state to off. DISARM is always taken. After either a head in a stall wait is judged again. -/
def Obligations.ArmValidatesAndDisarmIsAlwaysTaken : Prop :=
  ∀ (tag : Tag) (s : State),
    let judged (t : State) := if s.tracker.stall = none then .next t else exec .completion t
    ((∃ k r, s.sequencer.state = .armed k r) →
      exec (.arm tag) s = .next (s.responded 3 .refused tag 0x52#8 [0x08#8])) ∧
    ((∀ k r, s.sequencer.state ≠ .armed k r) →
      (¬ValidProgram s.sequencer → exec (.arm tag) s = .next (s.responded 3 .refused tag 0x52#8 [0x09#8])) ∧
      (ValidProgram s.sequencer →
        exec (.arm tag) s =
          judged
            (State.responded
              { s with
                sequencer := { s.sequencer with state := .armed 0 (s.sequencer.steps.get 0).count }
                capture := { s.capture with
                  on := if s.capture.mode = .sequenced then false else s.capture.on } }
              3 .ok tag 0x52#8 []))) ∧
    exec (.disarm tag) s =
      judged (State.responded { s with sequencer := { s.sequencer with state := .disarmed } } 3 .ok tag 0x53#8 [])

/-- SET_CAPTURE: BAD_ARGUMENT for a value out of range; else every setting is written and the capture state becomes on for
ALWAYS and off for OFF and SEQUENCED. In a stall wait the head is judged again, and where it still waits under a limit
already reached the limit runs out. -/
def Obligations.SetCaptureWritesEverySetting : Prop :=
  ∀ (tag : Tag) (a : CaptureArgs) (s : State),
    let answer := exec (.setCapture tag a) s
    let sound : Prop := a.mode.toNat ≤ 2 ∧ a.readData.toNat ≤ 1 ∧ a.writeData.toNat ≤ 1 ∧ a.policy.toNat ≤ 1
    (¬sound → answer = .next (s.responded 10 .refused tag 0x61#8 [0x0D#8])) ∧
    (sound →
      ∃ (mode : CaptureMode) (policy : FullPolicy), codeOfCaptureMode mode = a.mode ∧ codeOfPolicy policy = a.policy ∧
        let written : State :=
          State.responded
            { s with
              capture := { s.capture with
                mode, policy, filter := a.filter, limit := a.limit
                readData := a.readData == 1#8, writeData := a.writeData == 1#8, on := mode == .always } }
            10 .ok tag 0x61#8 []
        (s.tracker.stall = none → answer = .next written) ∧
        ∀ count e, s.tracker.stall = some count → s.readyHead = some e →
          let short : Prop := (written.judgment e).fits = false ∧ policy = .stall
          let reached : Prop := a.limit ≠ 0#16 ∧ a.limit.toNat ≤ count
          (¬short → answer = exec .completion written) ∧
          (short → ¬reached → answer = .next written) ∧
          (short → reached → answer = exec .stallLimitRunsOut written))

/-- The records a completion gives (R109 to R111): a captured transaction gives its ADDRESS record and, where it has
data as seen upstream and its direction's data capture is on, its DATA record; a fired step with MARK gives the
MARK, captured or not. The model's choice, log entry 21: a forwarded single-beat FETCH WRITE answered ERROR has its
write data as seen upstream. -/
def Obligations.CapturedTransactionsGiveTheirRecords : Prop :=
  ∀ (s : State) (e : Entry) (result : Result), e.result = some result →
    let j := s.judgment e
    let r := e.request
    let eligible : Prop :=
      s.capture.mode = .always ∨
        (s.capture.mode = .sequenced ∧
          (s.capture.on = true ∨ ∃ k actions last, j.outcome = .fired k actions last ∧ actions.captureOn = true))
    let captured : Prop :=
      eligible ∧
        (s.capture.filter = 0#4 ∨
          ∃ n : Fin 4, s.capture.filter.getLsbD n = true ∧ (matchSet s.comparators e).getLsbD n = true)
    let wanted : Bool := match r.direction with | .read => s.capture.readData | .write => s.capture.writeData
    let address : RecordBody :=
      .address e.ordinal r.address r.size r.direction r.kind r.privilege r.initiator r.lock e.verdict result.status
    j.outcome = (s.sequencer.step (matchSet s.comparators e)).2 ∧
    (¬captured → j.own = []) ∧
    (captured →
      (∀ v, wanted = true → DataSeenUpstream e v →
        j.own = [address, .data e.ordinal r.direction r.size v]) ∧
      (wanted = false ∨ (∀ v, ¬DataSeenUpstream e v) → j.own = [address])) ∧
    (∀ k actions last, j.outcome = .fired k actions last →
      j.mark = if actions.mark then [.mark e.ordinal k last] else []) ∧
    ((∀ k actions last, j.outcome ≠ .fired k actions last) → j.mark = [])

/-- The slots a completion needs and what it stores or drops (R116 to R118, Table 7-3): a LOSS record first, then the
transaction's own records, then the MARK, with consecutive sequence numbers; dropped records are counted up to 65535. The
capture state after it is that of Table 6-3. -/
def Obligations.RecordsAreStoredOrDroppedByTheNeededCount : Prop :=
  ∀ (s : State) (e : Entry),
    let c := s.capture
    let j := s.judgment e
    let t := j.own.length
    let m := j.mark.length
    let free := 64 - c.buffer.length - (if c.reserved then 2 else 0)
    let loss := if c.loss = 0#16 then 0 else 1
    let report := if c.loss = 0#16 then [] else [RecordBody.loss c.loss]
    let counted (n : Nat) : BitVec 16 := BitVec.ofNat 16 (min (c.loss.toNat + n) 65535)
    let fires (action : StepActions → Bool) : Prop :=
      ∃ k actions last, j.outcome = .fired k actions last ∧ action actions = true
    let fitsBy (needed space : Nat) : Prop := j.fits = true ↔ needed = 0 ∨ needed ≤ space
    let gives (fits : Bool) (bodies : List RecordBody) (lost : BitVec 16) (reserved : Bool) : Prop :=
      c.complete j fits =
        { c with
          buffer := c.buffer ++ bodies.mapIdx fun i body => { sequence := c.sequence + BitVec.ofNat 16 i, body }
          sequence := c.sequence + BitVec.ofNat 16 bodies.length
          loss := lost
          reserved
          on := (c.complete j fits).on }
    (e.role = .none ∨ (e.role = .openingRead ∧ s.tracker.lock = none) ∨
        (e.role = .closingWrite false ∧ c.reserved = false) →
      fitsBy (if t + m = 0 then 0 else t + m + loss) free ∧
      (t + m = 0 → gives true [] c.loss c.reserved) ∧
      (t + m ≠ 0 → gives true (report ++ j.own ++ j.mark) 0#16 c.reserved) ∧
      gives false [] (counted (t + m)) c.reserved) ∧
    (e.role = .openingRead → s.tracker.lock ≠ none →
      fitsBy (t + m + loss + 2) free ∧
      gives true (report ++ j.own ++ j.mark) 0#16 true ∧
      gives false [] (counted (t + m)) c.reserved) ∧
    (e.role = .closingWrite false → c.reserved = true →
      fitsBy (t + m) (64 - c.buffer.length) ∧
      gives true (j.own ++ j.mark) c.loss false ∧
      gives false j.own (counted m) false) ∧
    (e.role = .closingWrite true →
      fitsBy (if m = 0 then 0 else m + if c.loss.toNat + t = 0 then 0 else 1) free ∧
      (m = 0 → gives true [] (counted t) c.reserved) ∧
      (m ≠ 0 →
        gives true ((if c.loss.toNat + t = 0 then [] else [.loss (counted t)]) ++ j.mark) 0#16 c.reserved) ∧
      gives false [] (counted (t + m)) c.reserved) ∧
    ∀ fits,
      (c.mode ≠ .sequenced → (c.complete j fits).on = c.on) ∧
      (c.mode = .sequenced → fires (·.captureOn) → (c.complete j fits).on = true) ∧
      (c.mode = .sequenced → ¬fires (·.captureOn) → fires (·.captureOff) → (c.complete j fits).on = false) ∧
      (c.mode = .sequenced → ¬fires (·.captureOn) → ¬fires (·.captureOff) → (c.complete j fits).on = c.on)

/-- FLUSH_TRACE discards every stored record, clears the loss counter and ends a record in transmission. READ_TRACE is
refused while the link is not DISABLED, then with an empty buffer; else it removes and returns the head record. After a
removal a head in a stall wait is judged again. -/
def Obligations.FlushAndReadRemoveRecords : Prop :=
  ∀ (tag : Tag) (s : State),
    let judged (t : State) := if s.tracker.stall = none then .next t else exec .completion t
    exec (.flushTrace tag) s =
      judged
        (State.responded
          { s with capture := { s.capture with buffer := [], loss := 0#16, inTransmission := false } }
          3 .ok tag 0x63#8 [BitVec.ofNat 8 s.capture.buffer.length]) ∧
    (s.link.state ≠ .disabled →
      exec (.readTrace tag) s = .next (s.responded 3 .refused tag 0x64#8 [0x0A#8])) ∧
    (s.link.state = .disabled →
      (s.capture.buffer = [] →
        exec (.readTrace tag) s = .next (s.responded 3 .refused tag 0x64#8 [0x0E#8])) ∧
      ∀ head rest, s.capture.buffer = head :: rest →
        exec (.readTrace tag) s =
          judged
            (State.responded { s with capture := { s.capture with buffer := rest } } 3 .ok tag 0x64#8
              (head.kindAndLength :: head.payload
                ++ List.replicate (17 - head.payload.length) 0x00#8 ++ [BitVec.ofNat 8 rest.length])))

/-! ## Trace link -/

/-- A trace-link frame: the SOF byte, the kind and the payload length, the payload with the sequence number first, and two
check bytes that take the CRC-16 to 0. Frames tell records apart. -/
def Obligations.FramesCarryRecordsWhole : Prop :=
  let sound (r : Record) : Prop :=
    match r.body with
    | .data _ _ size value => size.isBurst = false ∧ value.toNat < 256 ^ size.beatBytes
    | .address .. | .mark .. | .loss .. => True
  (∀ r : Record,
    ∃ first check, r.frame = [0x5C#8, first] ++ r.payload ++ check ∧
      first.toNat / 64 = (match r.body with | .address .. => 0 | .data .. => 1 | .mark .. => 2 | .loss .. => 3) ∧
      first.toNat % 64 = r.payload.length ∧
      r.payload.length =
        (match r.body with
         | .address .. => 17
         | .data _ _ size _ => 7 + size.beatBytes
         | .mark .. => 7
         | .loss _ => 4) ∧
      natBE (r.payload.take 2) = r.sequence.toNat ∧
      check.length = 2 ∧ crc16 (first :: r.payload ++ check) = 0#16) ∧
  ∀ r r' : Record, sound r → sound r' → r.frame = r'.frame → r = r'

/-- CREDIT_PULSE: discarded in DISABLED and FAULT; in RUNNING below 8 it counts, and starts a frame for the head record
where none is being sent; at 8 the link enters FAULT. A FRAME_END with no frame being sent changes nothing (the model's
choice, log entry 3). -/
def Obligations.CreditPulseCountsStartsOrOverflows : Prop :=
  ∀ s : State,
    (s.link.state ≠ .running → exec .creditPulse s = .next s) ∧
    (s.link.state = .running → s.link.credit < 8 →
      (s.link.frame ≠ none ∨ s.capture.buffer = [] →
        exec .creditPulse s = .next { s with link := { s.link with credit := s.link.credit + 1 } }) ∧
      (∀ head rest, s.link.frame = none → s.capture.buffer = head :: rest →
        exec .creditPulse s =
          .next
            { s with
              link := { s.link with frame := some { content := head.frame, position := 0 } }
              capture := { s.capture with inTransmission := true } })) ∧
    (s.link.state = .running → s.link.credit = 8 →
      exec .creditPulse s = .next { s with link := { s.link with state := .fault } } ∧
      (State.flagSet { s with link := { s.link with state := .fault } } .linkError) = true) ∧
    (s.link.frame = none → exec .frameEnd s = .next s)

/-- FRAME_END: the frame has been sent whole, its record is removed if it is still held, and in RUNNING the next frame
starts where a record is stored and a credit is left. A head in a stall wait is judged again after a removal. -/
def Obligations.FrameEndRemovesItsRecord : Prop :=
  ∀ (s : State) (f : Sending), s.link.frame = some f →
    let left := if s.capture.inTransmission then s.capture.buffer.tail else s.capture.buffer
    let ended : State :=
      { s with
        link := { s.link with frame := none }
        capture := { s.capture with buffer := left, inTransmission := false }
        tld := f.content :: s.tld }
    let leads (t : State) : Prop :=
      exec .frameEnd s =
        if s.capture.inTransmission = true ∧ s.tracker.stall ≠ none then exec .completion t else .next t
    (s.link.state ≠ .running ∨ s.link.credit = 0 ∨ left = [] → leads ended) ∧
    (∀ head rest, s.link.state = .running → 0 < s.link.credit → left = head :: rest →
      leads
        { ended with
          link := { s.link with
            credit := s.link.credit - 1
            frame := some { content := head.frame, position := 0 } }
          capture := { ended.capture with inTransmission := true } })

/-- LINK_ENABLE: DISABLED becomes RUNNING with credit 0; in RUNNING nothing changes; in FAULT it is refused.
LINK_DISABLE: DISABLED with credit 0 and no LINK_ERROR; a frame being sent stops short of its end (R144), its record
staying at the head. The model's choice, log entry 6: the byte at which a frame is cut is free, from the byte it had
reached to short of its end. -/
def Obligations.LinkIsEnabledAndDisabled : Prop :=
  ∀ (tag : Tag) (s : State),
    (s.link.state = .disabled →
      exec (.linkEnable tag) s =
        .next
          (State.responded { s with link := { s.link with state := .running, credit := 0 } } 3 .ok tag 0x71#8
            [0x01#8, 0x00#8])) ∧
    (s.link.state = .running →
      exec (.linkEnable tag) s =
        .next (s.responded 3 .ok tag 0x71#8 [0x01#8, BitVec.ofNat 8 s.link.credit])) ∧
    (s.link.state = .fault →
      exec (.linkEnable tag) s = .next (s.responded 3 .refused tag 0x71#8 [0x0B#8])) ∧
    (s.link.frame = none →
      exec (.linkDisable tag) s =
        .next
          (State.responded { s with link := { state := .disabled, credit := 0, frame := none } } 3 .ok tag 0x72#8
            [codeOfLinkState s.link.state, 0x00#8, 0x00#8])) ∧
    (∀ f, s.link.frame = some f → f.position < f.content.length →
      ∃ sent drawn, f.position ≤ sent ∧ sent < f.content.length ∧
        exec (.linkDisable tag) s =
          .next
            (State.responded
              { s with
                link := { state := .disabled, credit := 0, frame := none }
                capture := { s.capture with inTransmission := false }
                tld := f.content.take sent :: s.tld
                freeCount := drawn }
              3 .ok tag 0x72#8 [codeOfLinkState s.link.state, 0x01#8, 0x00#8])) ∧
    (∀ t, exec (.linkDisable tag) s = .next t → FlagLaw t.flags → t.flagSet .linkError = false)

/-! ## Flags -/

/-- CLEAR_FLAGS clears the event flags named and leaves the level flags to their conditions; SET_ALERT_ENABLE replaces the
enable mask. Either is refused where it names a number outside 1 to 12, and is answered with what stands after it. -/
def Obligations.FlagsAreClearedAndEnabled : Prop :=
  ∀ (tag : Tag) (set : FlagSet) (s : State),
    let outside : Prop := ∃ n : Fin 16, (n.val = 0 ∨ 12 < n.val) ∧ set.getLsbD n = true
    let cleared : State := { s with flags := { s.flags with events := s.flags.events &&& ~~~set } }
    let enabled : State := { s with flags := { s.flags with enables := set } }
    (outside →
      exec (.clearFlags tag set) s = .next (s.responded 5 .refused tag 0x82#8 [0x0D#8]) ∧
      exec (.setAlertEnable tag set) s = .next (s.responded 5 .refused tag 0x83#8 [0x0D#8])) ∧
    (¬outside →
      exec (.clearFlags tag set) s =
        .next
          (cleared.responded 5 .ok tag 0x82#8
            (bytesBE 2 cleared.flagWord.toNat ++ [BitVec.ofNat 8 cleared.causeCode])) ∧
      exec (.setAlertEnable tag set) s =
        .next
          (enabled.responded 5 .ok tag 0x83#8 (bytesBE 2 set.toNat ++ [BitVec.ofNat 8 enabled.causeCode]))) ∧
    (FlagLaw s.flags → ∀ f : Flag,
      cleared.flagSet f =
        match f with
        | .lockdown => s.guardUnit.lockdown
        | .linkError => s.link.state = .fault
        | f => s.flagSet f && !set.getLsbD f.number)

/-- ALERT is asserted exactly while a flag is both set and enabled; the cause code is the lowest number of such a flag, and
0 where there is none; the level flags are their conditions. -/
def Obligations.AlertAndCauseFollowTheFlags : Prop :=
  ∀ s : State,
    let counts (f : Flag) : Prop := s.flagSet f = true ∧ s.flags.enables.getLsbD f.number = true
    (s.alert = true ↔ ∃ f, counts f) ∧
    (s.causeCode ≠ 0 ↔ s.alert = true) ∧
    (∀ f, counts f → (∀ g, counts g → f.number ≤ g.number) → s.causeCode = f.number) ∧
    ((∀ f, ¬counts f) → s.causeCode = 0) ∧
    (FlagLaw s.flags →
      s.flagSet .lockdown = s.guardUnit.lockdown ∧ (s.flagSet .linkError = true ↔ s.link.state = .fault))

/-! ## What every step keeps -/

/-- The laws of the in-flight list, the stall wait and the locked pair are kept by every step. -/
def Obligations.EveryStepKeepsTheTransactionLaws : Prop :=
  ∀ s t : State, TrackerLaw s.tracker → StallLaw s → PairLaw s → step s = .next t →
    TrackerLaw t.tracker ∧ StallLaw t ∧ PairLaw t

/-- The laws of the trace buffer and of the trace link are kept by every step. -/
def Obligations.EveryStepKeepsTheBufferAndLinkLaws : Prop :=
  ∀ s t : State, step s = .next t →
    (BufferLaw s.capture → BufferLaw t.capture) ∧ (LinkLaw s → LinkLaw t)

/-- The law of the violation list is kept by every step. -/
def Obligations.EveryStepKeepsTheViolationLaw : Prop :=
  ∀ s t : State, ViolationLaw s.violations → step s = .next t → ViolationLaw t.violations

/-- The law of the region table and the pending slot is kept by every step. -/
def Obligations.EveryStepKeepsThePolicyLaw : Prop :=
  ∀ s t : State, PolicyLaw s → step s = .next t → PolicyLaw t

/-- The laws of the guard, the sequencer, the comparators, the capture state and the flags are kept by every step. -/
def Obligations.EveryStepKeepsTheSettingsLaws : Prop :=
  ∀ s t : State, step s = .next t →
    (GuardLaw s.guardUnit → GuardLaw t.guardUnit) ∧
    (SequencerLaw s.sequencer → SequencerLaw t.sequencer) ∧
    (ComparatorLaw s.comparators → ComparatorLaw t.comparators) ∧
    (CaptureStateLaw s.capture → CaptureStateLaw t.capture) ∧
    (FlagLaw s.flags → FlagLaw t.flags)

/-- In LOCKDOWN every WRITE is a violation that is refused and handed to the violation list; the guard stays as it is at
every step but a MAINT_RESET and a power-on reset, and no WRITE is issued downstream. -/
def Obligations.LockdownLastsAndForwardsNoWrite : Prop :=
  ∀ s : State, s.guardUnit.lockdown = true → s.guardUnit.mode = .enforce →
    (∀ (closes : Option Lock) (r : Request), r.direction = .write →
      let malformed := malformedReason s.tracker.lock r
      let v := s.verdictFor closes malformed r
      v.reason = some (malformed.getD .lockdownWrite) ∧ v.action = .refuse ∧ s.takes v r = true) ∧
    ∀ t : State, step s = .next t →
      (∀ tag, s.pending.head? ≠ some (.maintReset tag)) →
      (∀ gstrap, s.pending.head? ≠ some (.powerOnReset gstrap)) →
        t.guardUnit = s.guardUnit ∧
        (t.downstream = s.downstream ∨
          ∃ issued, t.downstream = issued :: s.downstream ∧ issued.direction = .read)
end

