-- ==== Sys2Proof/Laws/State.lean ====
section
/-! SUPPORT. One lemma per field of the state for each named update, and the small facts of what they keep. -/

namespace Sys2Proof.Machine

variable (s : State)

/-! ## An event handed on -/

@[simp] theorem State.raise_pending (f : Flag) : (s.raise f).pending = s.pending :=
  rfl

@[simp] theorem State.raise_brst (f : Flag) : (s.raise f).brst = s.brst :=
  rfl

@[simp] theorem State.raise_tracker (f : Flag) : (s.raise f).tracker = s.tracker :=
  rfl

@[simp] theorem State.raise_table (f : Flag) : (s.raise f).table = s.table :=
  rfl

@[simp] theorem State.raise_guardUnit (f : Flag) : (s.raise f).guardUnit = s.guardUnit :=
  rfl

@[simp] theorem State.raise_violations (f : Flag) : (s.raise f).violations = s.violations :=
  rfl

@[simp] theorem State.raise_comparators (f : Flag) : (s.raise f).comparators = s.comparators :=
  rfl

@[simp] theorem State.raise_sequencer (f : Flag) : (s.raise f).sequencer = s.sequencer :=
  rfl

@[simp] theorem State.raise_capture (f : Flag) : (s.raise f).capture = s.capture :=
  rfl

@[simp] theorem State.raise_link (f : Flag) : (s.raise f).link = s.link :=
  rfl

@[simp] theorem State.raise_flags (f : Flag) :
    (s.raise f).flags = { s.flags with events := s.flags.events ||| f.mask } :=
  rfl

@[simp] theorem State.raise_port (f : Flag) : (s.raise f).port = s.port :=
  rfl

@[simp] theorem State.raise_refTimer (f : Flag) : (s.raise f).refTimer = s.refTimer :=
  rfl

@[simp] theorem State.raise_upstream (f : Flag) : (s.raise f).upstream = s.upstream :=
  rfl

@[simp] theorem State.raise_downstream (f : Flag) : (s.raise f).downstream = s.downstream :=
  rfl

@[simp] theorem State.raise_tld (f : Flag) : (s.raise f).tld = s.tld :=
  rfl

@[simp] theorem State.raise_mdo (f : Flag) : (s.raise f).mdo = s.mdo :=
  rfl

@[simp] theorem State.raise_freeCount (f : Flag) : (s.raise f).freeCount = s.freeCount :=
  rfl

/-! ## A frame taken -/

@[simp] theorem State.takeBits_pending (n : Nat) : (s.takeBits n).pending = s.pending :=
  rfl

@[simp] theorem State.takeBits_brst (n : Nat) : (s.takeBits n).brst = s.brst :=
  rfl

@[simp] theorem State.takeBits_tracker (n : Nat) : (s.takeBits n).tracker = s.tracker :=
  rfl

@[simp] theorem State.takeBits_table (n : Nat) : (s.takeBits n).table = s.table :=
  rfl

@[simp] theorem State.takeBits_guardUnit (n : Nat) : (s.takeBits n).guardUnit = s.guardUnit :=
  rfl

@[simp] theorem State.takeBits_violations (n : Nat) : (s.takeBits n).violations = s.violations :=
  rfl

@[simp] theorem State.takeBits_comparators (n : Nat) : (s.takeBits n).comparators = s.comparators :=
  rfl

@[simp] theorem State.takeBits_sequencer (n : Nat) : (s.takeBits n).sequencer = s.sequencer :=
  rfl

@[simp] theorem State.takeBits_capture (n : Nat) : (s.takeBits n).capture = s.capture :=
  rfl

@[simp] theorem State.takeBits_link (n : Nat) : (s.takeBits n).link = s.link :=
  rfl

@[simp] theorem State.takeBits_flags (n : Nat) : (s.takeBits n).flags = s.flags :=
  rfl

@[simp] theorem State.takeBits_port (n : Nat) : (s.takeBits n).port = { s.port with receiver := [] } :=
  rfl

@[simp] theorem State.takeBits_refTimer (n : Nat) : (s.takeBits n).refTimer = s.refTimer :=
  rfl

@[simp] theorem State.takeBits_upstream (n : Nat) : (s.takeBits n).upstream = s.upstream :=
  rfl

@[simp] theorem State.takeBits_downstream (n : Nat) : (s.takeBits n).downstream = s.downstream :=
  rfl

@[simp] theorem State.takeBits_tld (n : Nat) : (s.takeBits n).tld = s.tld :=
  rfl

@[simp] theorem State.takeBits_mdo (n : Nat) : (s.takeBits n).mdo = s.port.held.shiftedOut n :: s.mdo :=
  rfl

@[simp] theorem State.takeBits_freeCount (n : Nat) : (s.takeBits n).freeCount = s.freeCount :=
  rfl

/-! ## The frame of a command taken -/

@[simp] theorem State.takeFrame_pending (code : Code) : (s.takeFrame code).pending = s.pending :=
  rfl

@[simp] theorem State.takeFrame_brst (code : Code) : (s.takeFrame code).brst = s.brst :=
  rfl

@[simp] theorem State.takeFrame_tracker (code : Code) : (s.takeFrame code).tracker = s.tracker :=
  rfl

@[simp] theorem State.takeFrame_table (code : Code) : (s.takeFrame code).table = s.table :=
  rfl

@[simp] theorem State.takeFrame_guardUnit (code : Code) : (s.takeFrame code).guardUnit = s.guardUnit :=
  rfl

@[simp] theorem State.takeFrame_violations (code : Code) : (s.takeFrame code).violations = s.violations :=
  rfl

@[simp] theorem State.takeFrame_comparators (code : Code) : (s.takeFrame code).comparators = s.comparators :=
  rfl

@[simp] theorem State.takeFrame_sequencer (code : Code) : (s.takeFrame code).sequencer = s.sequencer :=
  rfl

@[simp] theorem State.takeFrame_capture (code : Code) : (s.takeFrame code).capture = s.capture :=
  rfl

@[simp] theorem State.takeFrame_link (code : Code) : (s.takeFrame code).link = s.link :=
  rfl

@[simp] theorem State.takeFrame_flags (code : Code) : (s.takeFrame code).flags = s.flags :=
  rfl

@[simp] theorem State.takeFrame_port (code : Code) : (s.takeFrame code).port = { s.port with receiver := [] } :=
  rfl

@[simp] theorem State.takeFrame_refTimer (code : Code) : (s.takeFrame code).refTimer = s.refTimer :=
  rfl

@[simp] theorem State.takeFrame_upstream (code : Code) : (s.takeFrame code).upstream = s.upstream :=
  rfl

@[simp] theorem State.takeFrame_downstream (code : Code) : (s.takeFrame code).downstream = s.downstream :=
  rfl

@[simp] theorem State.takeFrame_tld (code : Code) : (s.takeFrame code).tld = s.tld :=
  rfl

@[simp] theorem State.takeFrame_mdo (code : Code) :
    (s.takeFrame code).mdo = s.port.held.shiftedOut (8 * code.frameLength) :: s.mdo :=
  rfl

@[simp] theorem State.takeFrame_freeCount (code : Code) : (s.takeFrame code).freeCount = s.freeCount :=
  rfl

/-! ## A response held -/

@[simp] theorem State.hold_pending (r : Response) : (s.hold r).pending = s.pending :=
  rfl

@[simp] theorem State.hold_brst (r : Response) : (s.hold r).brst = s.brst :=
  rfl

@[simp] theorem State.hold_tracker (r : Response) : (s.hold r).tracker = s.tracker :=
  rfl

@[simp] theorem State.hold_table (r : Response) : (s.hold r).table = s.table :=
  rfl

@[simp] theorem State.hold_guardUnit (r : Response) : (s.hold r).guardUnit = s.guardUnit :=
  rfl

@[simp] theorem State.hold_violations (r : Response) : (s.hold r).violations = s.violations :=
  rfl

@[simp] theorem State.hold_comparators (r : Response) : (s.hold r).comparators = s.comparators :=
  rfl

@[simp] theorem State.hold_sequencer (r : Response) : (s.hold r).sequencer = s.sequencer :=
  rfl

@[simp] theorem State.hold_capture (r : Response) : (s.hold r).capture = s.capture :=
  rfl

@[simp] theorem State.hold_link (r : Response) : (s.hold r).link = s.link :=
  rfl

@[simp] theorem State.hold_flags (r : Response) : (s.hold r).flags = s.flags :=
  rfl

@[simp] theorem State.hold_port (r : Response) : (s.hold r).port = { s.port with held := r } :=
  rfl

@[simp] theorem State.hold_refTimer (r : Response) : (s.hold r).refTimer = s.refTimer :=
  rfl

@[simp] theorem State.hold_upstream (r : Response) : (s.hold r).upstream = s.upstream :=
  rfl

@[simp] theorem State.hold_downstream (r : Response) : (s.hold r).downstream = s.downstream :=
  rfl

@[simp] theorem State.hold_tld (r : Response) : (s.hold r).tld = s.tld :=
  rfl

@[simp] theorem State.hold_mdo (r : Response) : (s.hold r).mdo = s.mdo :=
  rfl

@[simp] theorem State.hold_freeCount (r : Response) : (s.hold r).freeCount = s.freeCount :=
  rfl

/-! ## A command answered -/

@[simp] theorem State.answer_pending (code : Code) (tag : Tag) (status : Status) (result : List Byte) :
    (s.answer code tag status result).pending = s.pending :=
  rfl

@[simp] theorem State.answer_brst (code : Code) (tag : Tag) (status : Status) (result : List Byte) :
    (s.answer code tag status result).brst = s.brst :=
  rfl

@[simp] theorem State.answer_tracker (code : Code) (tag : Tag) (status : Status) (result : List Byte) :
    (s.answer code tag status result).tracker = s.tracker :=
  rfl

@[simp] theorem State.answer_table (code : Code) (tag : Tag) (status : Status) (result : List Byte) :
    (s.answer code tag status result).table = s.table :=
  rfl

@[simp] theorem State.answer_guardUnit (code : Code) (tag : Tag) (status : Status) (result : List Byte) :
    (s.answer code tag status result).guardUnit = s.guardUnit :=
  rfl

@[simp] theorem State.answer_violations (code : Code) (tag : Tag) (status : Status) (result : List Byte) :
    (s.answer code tag status result).violations = s.violations :=
  rfl

@[simp] theorem State.answer_comparators (code : Code) (tag : Tag) (status : Status) (result : List Byte) :
    (s.answer code tag status result).comparators = s.comparators :=
  rfl

@[simp] theorem State.answer_sequencer (code : Code) (tag : Tag) (status : Status) (result : List Byte) :
    (s.answer code tag status result).sequencer = s.sequencer :=
  rfl

@[simp] theorem State.answer_capture (code : Code) (tag : Tag) (status : Status) (result : List Byte) :
    (s.answer code tag status result).capture = s.capture :=
  rfl

@[simp] theorem State.answer_link (code : Code) (tag : Tag) (status : Status) (result : List Byte) :
    (s.answer code tag status result).link = s.link :=
  rfl

@[simp] theorem State.answer_flags (code : Code) (tag : Tag) (status : Status) (result : List Byte) :
    (s.answer code tag status result).flags = s.flags :=
  rfl

@[simp] theorem State.answer_port (code : Code) (tag : Tag) (status : Status) (result : List Byte) :
    (s.answer code tag status result).port = { s.port with held := { status, tag, code := code.byte, result } } :=
  rfl

@[simp] theorem State.answer_refTimer (code : Code) (tag : Tag) (status : Status) (result : List Byte) :
    (s.answer code tag status result).refTimer = s.refTimer :=
  rfl

@[simp] theorem State.answer_upstream (code : Code) (tag : Tag) (status : Status) (result : List Byte) :
    (s.answer code tag status result).upstream = s.upstream :=
  rfl

@[simp] theorem State.answer_downstream (code : Code) (tag : Tag) (status : Status) (result : List Byte) :
    (s.answer code tag status result).downstream = s.downstream :=
  rfl

@[simp] theorem State.answer_tld (code : Code) (tag : Tag) (status : Status) (result : List Byte) :
    (s.answer code tag status result).tld = s.tld :=
  rfl

@[simp] theorem State.answer_mdo (code : Code) (tag : Tag) (status : Status) (result : List Byte) :
    (s.answer code tag status result).mdo = s.mdo :=
  rfl

@[simp] theorem State.answer_freeCount (code : Code) (tag : Tag) (status : Status) (result : List Byte) :
    (s.answer code tag status result).freeCount = s.freeCount :=
  rfl

/-! ## A command refused -/

@[simp] theorem State.refuse_pending (code : Code) (tag : Tag) (reason : RefusalReason) :
    (s.refuse code tag reason).pending = s.pending :=
  rfl

@[simp] theorem State.refuse_brst (code : Code) (tag : Tag) (reason : RefusalReason) :
    (s.refuse code tag reason).brst = s.brst :=
  rfl

@[simp] theorem State.refuse_tracker (code : Code) (tag : Tag) (reason : RefusalReason) :
    (s.refuse code tag reason).tracker = s.tracker :=
  rfl

@[simp] theorem State.refuse_table (code : Code) (tag : Tag) (reason : RefusalReason) :
    (s.refuse code tag reason).table = s.table :=
  rfl

@[simp] theorem State.refuse_guardUnit (code : Code) (tag : Tag) (reason : RefusalReason) :
    (s.refuse code tag reason).guardUnit = s.guardUnit :=
  rfl

@[simp] theorem State.refuse_violations (code : Code) (tag : Tag) (reason : RefusalReason) :
    (s.refuse code tag reason).violations = s.violations :=
  rfl

@[simp] theorem State.refuse_comparators (code : Code) (tag : Tag) (reason : RefusalReason) :
    (s.refuse code tag reason).comparators = s.comparators :=
  rfl

@[simp] theorem State.refuse_sequencer (code : Code) (tag : Tag) (reason : RefusalReason) :
    (s.refuse code tag reason).sequencer = s.sequencer :=
  rfl

@[simp] theorem State.refuse_capture (code : Code) (tag : Tag) (reason : RefusalReason) :
    (s.refuse code tag reason).capture = s.capture :=
  rfl

@[simp] theorem State.refuse_link (code : Code) (tag : Tag) (reason : RefusalReason) :
    (s.refuse code tag reason).link = s.link :=
  rfl

@[simp] theorem State.refuse_flags (code : Code) (tag : Tag) (reason : RefusalReason) :
    (s.refuse code tag reason).flags = s.flags :=
  rfl

@[simp] theorem State.refuse_port (code : Code) (tag : Tag) (reason : RefusalReason) :
    (s.refuse code tag reason).port = { s.port with
        held := { status := .refused, tag, code := code.byte, result := [codeOfRefusal reason] } } :=
  rfl

@[simp] theorem State.refuse_refTimer (code : Code) (tag : Tag) (reason : RefusalReason) :
    (s.refuse code tag reason).refTimer = s.refTimer :=
  rfl

@[simp] theorem State.refuse_upstream (code : Code) (tag : Tag) (reason : RefusalReason) :
    (s.refuse code tag reason).upstream = s.upstream :=
  rfl

@[simp] theorem State.refuse_downstream (code : Code) (tag : Tag) (reason : RefusalReason) :
    (s.refuse code tag reason).downstream = s.downstream :=
  rfl

@[simp] theorem State.refuse_tld (code : Code) (tag : Tag) (reason : RefusalReason) :
    (s.refuse code tag reason).tld = s.tld :=
  rfl

@[simp] theorem State.refuse_mdo (code : Code) (tag : Tag) (reason : RefusalReason) :
    (s.refuse code tag reason).mdo = s.mdo :=
  rfl

@[simp] theorem State.refuse_freeCount (code : Code) (tag : Tag) (reason : RefusalReason) :
    (s.refuse code tag reason).freeCount = s.freeCount :=
  rfl

/-! ## The terms of the statements -/

@[simp] theorem State.framed_pending (n : Nat) : (s.framed n).pending = s.pending :=
  rfl

@[simp] theorem State.framed_brst (n : Nat) : (s.framed n).brst = s.brst :=
  rfl

@[simp] theorem State.framed_tracker (n : Nat) : (s.framed n).tracker = s.tracker :=
  rfl

@[simp] theorem State.framed_table (n : Nat) : (s.framed n).table = s.table :=
  rfl

@[simp] theorem State.framed_guardUnit (n : Nat) : (s.framed n).guardUnit = s.guardUnit :=
  rfl

@[simp] theorem State.framed_violations (n : Nat) : (s.framed n).violations = s.violations :=
  rfl

@[simp] theorem State.framed_comparators (n : Nat) : (s.framed n).comparators = s.comparators :=
  rfl

@[simp] theorem State.framed_sequencer (n : Nat) : (s.framed n).sequencer = s.sequencer :=
  rfl

@[simp] theorem State.framed_capture (n : Nat) : (s.framed n).capture = s.capture :=
  rfl

@[simp] theorem State.framed_link (n : Nat) : (s.framed n).link = s.link :=
  rfl

@[simp] theorem State.framed_flags (n : Nat) : (s.framed n).flags = s.flags :=
  rfl

@[simp] theorem State.framed_port (n : Nat) : (s.framed n).port = { s.port with receiver := [] } :=
  rfl

@[simp] theorem State.framed_refTimer (n : Nat) : (s.framed n).refTimer = s.refTimer :=
  rfl

@[simp] theorem State.framed_upstream (n : Nat) : (s.framed n).upstream = s.upstream :=
  rfl

@[simp] theorem State.framed_downstream (n : Nat) : (s.framed n).downstream = s.downstream :=
  rfl

@[simp] theorem State.framed_tld (n : Nat) : (s.framed n).tld = s.tld :=
  rfl

@[simp] theorem State.framed_mdo (n : Nat) : (s.framed n).mdo = s.port.held.shiftedOut n :: s.mdo :=
  rfl

@[simp] theorem State.framed_freeCount (n : Nat) : (s.framed n).freeCount = s.freeCount :=
  rfl

/-! ## A frame taken and answered -/

@[simp] theorem State.responded_pending (n : Nat) (status : Status) (tag : Tag) (code : Byte) (result : List Byte) :
    (s.responded n status tag code result).pending = s.pending :=
  rfl

@[simp] theorem State.responded_brst (n : Nat) (status : Status) (tag : Tag) (code : Byte) (result : List Byte) :
    (s.responded n status tag code result).brst = s.brst :=
  rfl

@[simp] theorem State.responded_tracker (n : Nat) (status : Status) (tag : Tag) (code : Byte) (result : List Byte) :
    (s.responded n status tag code result).tracker = s.tracker :=
  rfl

@[simp] theorem State.responded_table (n : Nat) (status : Status) (tag : Tag) (code : Byte) (result : List Byte) :
    (s.responded n status tag code result).table = s.table :=
  rfl

@[simp] theorem State.responded_guardUnit (n : Nat) (status : Status) (tag : Tag) (code : Byte) (result : List Byte) :
    (s.responded n status tag code result).guardUnit = s.guardUnit :=
  rfl

@[simp] theorem State.responded_violations (n : Nat) (status : Status) (tag : Tag) (code : Byte) (result : List Byte) :
    (s.responded n status tag code result).violations = s.violations :=
  rfl

@[simp] theorem State.responded_comparators (n : Nat) (status : Status) (tag : Tag) (code : Byte) (result : List Byte) :
    (s.responded n status tag code result).comparators = s.comparators :=
  rfl

@[simp] theorem State.responded_sequencer (n : Nat) (status : Status) (tag : Tag) (code : Byte) (result : List Byte) :
    (s.responded n status tag code result).sequencer = s.sequencer :=
  rfl

@[simp] theorem State.responded_capture (n : Nat) (status : Status) (tag : Tag) (code : Byte) (result : List Byte) :
    (s.responded n status tag code result).capture = s.capture :=
  rfl

@[simp] theorem State.responded_link (n : Nat) (status : Status) (tag : Tag) (code : Byte) (result : List Byte) :
    (s.responded n status tag code result).link = s.link :=
  rfl

@[simp] theorem State.responded_flags (n : Nat) (status : Status) (tag : Tag) (code : Byte) (result : List Byte) :
    (s.responded n status tag code result).flags = s.flags :=
  rfl

@[simp] theorem State.responded_port (n : Nat) (status : Status) (tag : Tag) (code : Byte) (result : List Byte) :
    (s.responded n status tag code result).port = { s.port with
        receiver := [], held := { status, tag, code, result } } :=
  rfl

@[simp] theorem State.responded_refTimer (n : Nat) (status : Status) (tag : Tag) (code : Byte) (result : List Byte) :
    (s.responded n status tag code result).refTimer = s.refTimer :=
  rfl

@[simp] theorem State.responded_upstream (n : Nat) (status : Status) (tag : Tag) (code : Byte) (result : List Byte) :
    (s.responded n status tag code result).upstream = s.upstream :=
  rfl

@[simp] theorem State.responded_downstream (n : Nat) (status : Status) (tag : Tag) (code : Byte) (result : List Byte) :
    (s.responded n status tag code result).downstream = s.downstream :=
  rfl

@[simp] theorem State.responded_tld (n : Nat) (status : Status) (tag : Tag) (code : Byte) (result : List Byte) :
    (s.responded n status tag code result).tld = s.tld :=
  rfl

@[simp] theorem State.responded_mdo (n : Nat) (status : Status) (tag : Tag) (code : Byte) (result : List Byte) :
    (s.responded n status tag code result).mdo = s.port.held.shiftedOut (8 * n) :: s.mdo :=
  rfl

@[simp] theorem State.responded_freeCount (n : Nat) (status : Status) (tag : Tag) (code : Byte) (result : List Byte) :
    (s.responded n status tag code result).freeCount = s.freeCount :=
  rfl

/-! ## Events handed on where a condition holds -/

@[simp] theorem State.raiseIf_true (f : Flag) : s.raiseIf true f = s.raise f :=
  rfl

@[simp] theorem State.raiseIf_false (f : Flag) : s.raiseIf false f = s :=
  rfl

@[simp] theorem State.raiseIf_pending (c : Bool) (f : Flag) : (s.raiseIf c f).pending = s.pending := by
  cases c <;> rfl

@[simp] theorem State.raiseIf_brst (c : Bool) (f : Flag) : (s.raiseIf c f).brst = s.brst := by
  cases c <;> rfl

@[simp] theorem State.raiseIf_tracker (c : Bool) (f : Flag) : (s.raiseIf c f).tracker = s.tracker := by
  cases c <;> rfl

@[simp] theorem State.raiseIf_table (c : Bool) (f : Flag) : (s.raiseIf c f).table = s.table := by
  cases c <;> rfl

@[simp] theorem State.raiseIf_guardUnit (c : Bool) (f : Flag) : (s.raiseIf c f).guardUnit = s.guardUnit := by
  cases c <;> rfl

@[simp] theorem State.raiseIf_violations (c : Bool) (f : Flag) : (s.raiseIf c f).violations = s.violations := by
  cases c <;> rfl

@[simp] theorem State.raiseIf_comparators (c : Bool) (f : Flag) : (s.raiseIf c f).comparators = s.comparators := by
  cases c <;> rfl

@[simp] theorem State.raiseIf_sequencer (c : Bool) (f : Flag) : (s.raiseIf c f).sequencer = s.sequencer := by
  cases c <;> rfl

@[simp] theorem State.raiseIf_capture (c : Bool) (f : Flag) : (s.raiseIf c f).capture = s.capture := by
  cases c <;> rfl

@[simp] theorem State.raiseIf_link (c : Bool) (f : Flag) : (s.raiseIf c f).link = s.link := by
  cases c <;> rfl

@[simp] theorem State.raiseIf_port (c : Bool) (f : Flag) : (s.raiseIf c f).port = s.port := by
  cases c <;> rfl

@[simp] theorem State.raiseIf_refTimer (c : Bool) (f : Flag) : (s.raiseIf c f).refTimer = s.refTimer := by
  cases c <;> rfl

@[simp] theorem State.raiseIf_upstream (c : Bool) (f : Flag) : (s.raiseIf c f).upstream = s.upstream := by
  cases c <;> rfl

@[simp] theorem State.raiseIf_downstream (c : Bool) (f : Flag) : (s.raiseIf c f).downstream = s.downstream := by
  cases c <;> rfl

@[simp] theorem State.raiseIf_tld (c : Bool) (f : Flag) : (s.raiseIf c f).tld = s.tld := by
  cases c <;> rfl

@[simp] theorem State.raiseIf_mdo (c : Bool) (f : Flag) : (s.raiseIf c f).mdo = s.mdo := by
  cases c <;> rfl

@[simp] theorem State.raiseIf_freeCount (c : Bool) (f : Flag) : (s.raiseIf c f).freeCount = s.freeCount := by
  cases c <;> rfl

/-- An event handed on where a condition holds, as one update of the flags. -/
theorem State.raiseIf_flags (c : Bool) (f : Flag) :
    (s.raiseIf c f).flags =
      { s.flags with events := if c then s.flags.events ||| f.mask else s.flags.events } := by
  cases c <;> rfl

/-- A flag's bit stands for that flag alone. -/
theorem Flag.mask_getLsbD (f g : Flag) : f.mask.getLsbD g.number = true ↔ g = f := by
  cases f <;> cases g <;> decide

/-- An event handed on where a condition holds sets that flag, and changes no other. -/
theorem State.raiseIf_getLsbD (c : Bool) (f g : Flag) :
    (s.raiseIf c f).flags.events.getLsbD g.number = true ↔
      s.flags.events.getLsbD g.number = true ∨ (g = f ∧ c = true) := by
  cases c
  · simp
  · show (s.flags.events ||| f.mask).getLsbD g.number = true ↔ _
    rw [BitVec.getLsbD_or, Bool.or_eq_true, Flag.mask_getLsbD]
    simp only [and_true]

/-! ## Answers as the statements say them -/

/-- Taking a command's frame, changing the state, and answering OK is the state after the change, responded. -/
theorem State.answer_eq_responded (code : Code) (tag : Tag) (status : Status) (result : List Byte) :
    (s.takeFrame code).answer code tag status result =
      s.responded code.frameLength status tag code.byte result :=
  rfl

/-- A refused command's frame is responded to with its reason. -/
theorem State.refuse_eq_responded (code : Code) (tag : Tag) (reason : RefusalReason) :
    (s.takeFrame code).refuse code tag reason =
      s.responded code.frameLength .refused tag code.byte [codeOfRefusal reason] :=
  rfl

/-- A response changes nothing but the held response, the receiver and MDO. -/
theorem State.responded_same (n : Nat) (status : Status) (tag : Tag) (code : Byte) (result : List Byte) :
    SameButForTheAnswer s (s.responded n status tag code result) :=
  rfl

end Sys2Proof.Machine
end

