-- ==== Sys2Proof/Laws/Frames.lean ====
section
/-! SUPPORT. What each shared operation leaves as it is, one lemma per field. -/

namespace Sys2Proof.Machine

variable (s : State)

/-! ## The start of a frame -/

@[simp] theorem State.startFrame_pending : (s.startFrame).pending = s.pending := by
  unfold State.startFrame
  split
  · split <;> rfl
  · rfl

@[simp] theorem State.startFrame_brst : (s.startFrame).brst = s.brst := by
  unfold State.startFrame
  split
  · split <;> rfl
  · rfl

@[simp] theorem State.startFrame_tracker : (s.startFrame).tracker = s.tracker := by
  unfold State.startFrame
  split
  · split <;> rfl
  · rfl

@[simp] theorem State.startFrame_table : (s.startFrame).table = s.table := by
  unfold State.startFrame
  split
  · split <;> rfl
  · rfl

@[simp] theorem State.startFrame_guardUnit : (s.startFrame).guardUnit = s.guardUnit := by
  unfold State.startFrame
  split
  · split <;> rfl
  · rfl

@[simp] theorem State.startFrame_violations : (s.startFrame).violations = s.violations := by
  unfold State.startFrame
  split
  · split <;> rfl
  · rfl

@[simp] theorem State.startFrame_comparators : (s.startFrame).comparators = s.comparators := by
  unfold State.startFrame
  split
  · split <;> rfl
  · rfl

@[simp] theorem State.startFrame_sequencer : (s.startFrame).sequencer = s.sequencer := by
  unfold State.startFrame
  split
  · split <;> rfl
  · rfl

@[simp] theorem State.startFrame_flags : (s.startFrame).flags = s.flags := by
  unfold State.startFrame
  split
  · split <;> rfl
  · rfl

@[simp] theorem State.startFrame_port : (s.startFrame).port = s.port := by
  unfold State.startFrame
  split
  · split <;> rfl
  · rfl

@[simp] theorem State.startFrame_refTimer : (s.startFrame).refTimer = s.refTimer := by
  unfold State.startFrame
  split
  · split <;> rfl
  · rfl

@[simp] theorem State.startFrame_upstream : (s.startFrame).upstream = s.upstream := by
  unfold State.startFrame
  split
  · split <;> rfl
  · rfl

@[simp] theorem State.startFrame_downstream : (s.startFrame).downstream = s.downstream := by
  unfold State.startFrame
  split
  · split <;> rfl
  · rfl

@[simp] theorem State.startFrame_tld : (s.startFrame).tld = s.tld := by
  unfold State.startFrame
  split
  · split <;> rfl
  · rfl

@[simp] theorem State.startFrame_mdo : (s.startFrame).mdo = s.mdo := by
  unfold State.startFrame
  split
  · split <;> rfl
  · rfl

@[simp] theorem State.startFrame_freeCount : (s.startFrame).freeCount = s.freeCount := by
  unfold State.startFrame
  split
  · split <;> rfl
  · rfl

/-! ## The progress of a frame -/

@[simp] theorem State.progressFrame_pending : (s.progressFrame).pending = s.pending := by
  unfold State.progressFrame
  split <;> rfl

@[simp] theorem State.progressFrame_brst : (s.progressFrame).brst = s.brst := by
  unfold State.progressFrame
  split <;> rfl

@[simp] theorem State.progressFrame_tracker : (s.progressFrame).tracker = s.tracker := by
  unfold State.progressFrame
  split <;> rfl

@[simp] theorem State.progressFrame_table : (s.progressFrame).table = s.table := by
  unfold State.progressFrame
  split <;> rfl

@[simp] theorem State.progressFrame_guardUnit : (s.progressFrame).guardUnit = s.guardUnit := by
  unfold State.progressFrame
  split <;> rfl

@[simp] theorem State.progressFrame_violations : (s.progressFrame).violations = s.violations := by
  unfold State.progressFrame
  split <;> rfl

@[simp] theorem State.progressFrame_comparators : (s.progressFrame).comparators = s.comparators := by
  unfold State.progressFrame
  split <;> rfl

@[simp] theorem State.progressFrame_sequencer : (s.progressFrame).sequencer = s.sequencer := by
  unfold State.progressFrame
  split <;> rfl

@[simp] theorem State.progressFrame_capture : (s.progressFrame).capture = s.capture := by
  unfold State.progressFrame
  split <;> rfl

@[simp] theorem State.progressFrame_flags : (s.progressFrame).flags = s.flags := by
  unfold State.progressFrame
  split <;> rfl

@[simp] theorem State.progressFrame_port : (s.progressFrame).port = s.port := by
  unfold State.progressFrame
  split <;> rfl

@[simp] theorem State.progressFrame_refTimer : (s.progressFrame).refTimer = s.refTimer := by
  unfold State.progressFrame
  split <;> rfl

@[simp] theorem State.progressFrame_upstream : (s.progressFrame).upstream = s.upstream := by
  unfold State.progressFrame
  split <;> rfl

@[simp] theorem State.progressFrame_downstream : (s.progressFrame).downstream = s.downstream := by
  unfold State.progressFrame
  split <;> rfl

@[simp] theorem State.progressFrame_tld : (s.progressFrame).tld = s.tld := by
  unfold State.progressFrame
  split <;> rfl

@[simp] theorem State.progressFrame_mdo : (s.progressFrame).mdo = s.mdo := by
  unfold State.progressFrame
  split <;> rfl

/-! ## A frame cut short -/

@[simp] theorem State.cutFrame_pending : (s.cutFrame).pending = s.pending := by
  unfold State.cutFrame
  split <;> rfl

@[simp] theorem State.cutFrame_brst : (s.cutFrame).brst = s.brst := by
  unfold State.cutFrame
  split <;> rfl

@[simp] theorem State.cutFrame_tracker : (s.cutFrame).tracker = s.tracker := by
  unfold State.cutFrame
  split <;> rfl

@[simp] theorem State.cutFrame_table : (s.cutFrame).table = s.table := by
  unfold State.cutFrame
  split <;> rfl

@[simp] theorem State.cutFrame_guardUnit : (s.cutFrame).guardUnit = s.guardUnit := by
  unfold State.cutFrame
  split <;> rfl

@[simp] theorem State.cutFrame_violations : (s.cutFrame).violations = s.violations := by
  unfold State.cutFrame
  split <;> rfl

@[simp] theorem State.cutFrame_comparators : (s.cutFrame).comparators = s.comparators := by
  unfold State.cutFrame
  split <;> rfl

@[simp] theorem State.cutFrame_sequencer : (s.cutFrame).sequencer = s.sequencer := by
  unfold State.cutFrame
  split <;> rfl

@[simp] theorem State.cutFrame_flags : (s.cutFrame).flags = s.flags := by
  unfold State.cutFrame
  split <;> rfl

@[simp] theorem State.cutFrame_port : (s.cutFrame).port = s.port := by
  unfold State.cutFrame
  split <;> rfl

@[simp] theorem State.cutFrame_refTimer : (s.cutFrame).refTimer = s.refTimer := by
  unfold State.cutFrame
  split <;> rfl

@[simp] theorem State.cutFrame_upstream : (s.cutFrame).upstream = s.upstream := by
  unfold State.cutFrame
  split <;> rfl

@[simp] theorem State.cutFrame_downstream : (s.cutFrame).downstream = s.downstream := by
  unfold State.cutFrame
  split <;> rfl

@[simp] theorem State.cutFrame_mdo : (s.cutFrame).mdo = s.mdo := by
  unfold State.cutFrame
  split <;> rfl

/-! ## The end of a frame -/

@[simp] theorem State.endFrame_pending (f : Sending) : (s.endFrame f).pending = s.pending := by
  simp [State.endFrame]

@[simp] theorem State.endFrame_brst (f : Sending) : (s.endFrame f).brst = s.brst := by
  simp [State.endFrame]

@[simp] theorem State.endFrame_tracker (f : Sending) : (s.endFrame f).tracker = s.tracker := by
  simp [State.endFrame]

@[simp] theorem State.endFrame_table (f : Sending) : (s.endFrame f).table = s.table := by
  simp [State.endFrame]

@[simp] theorem State.endFrame_guardUnit (f : Sending) : (s.endFrame f).guardUnit = s.guardUnit := by
  simp [State.endFrame]

@[simp] theorem State.endFrame_violations (f : Sending) : (s.endFrame f).violations = s.violations := by
  simp [State.endFrame]

@[simp] theorem State.endFrame_comparators (f : Sending) : (s.endFrame f).comparators = s.comparators := by
  simp [State.endFrame]

@[simp] theorem State.endFrame_sequencer (f : Sending) : (s.endFrame f).sequencer = s.sequencer := by
  simp [State.endFrame]

@[simp] theorem State.endFrame_flags (f : Sending) : (s.endFrame f).flags = s.flags := by
  simp [State.endFrame]

@[simp] theorem State.endFrame_port (f : Sending) : (s.endFrame f).port = s.port := by
  simp [State.endFrame]

@[simp] theorem State.endFrame_refTimer (f : Sending) : (s.endFrame f).refTimer = s.refTimer := by
  simp [State.endFrame]

@[simp] theorem State.endFrame_upstream (f : Sending) : (s.endFrame f).upstream = s.upstream := by
  simp [State.endFrame]

@[simp] theorem State.endFrame_downstream (f : Sending) : (s.endFrame f).downstream = s.downstream := by
  simp [State.endFrame]

@[simp] theorem State.endFrame_mdo (f : Sending) : (s.endFrame f).mdo = s.mdo := by
  simp [State.endFrame]

@[simp] theorem State.endFrame_freeCount (f : Sending) : (s.endFrame f).freeCount = s.freeCount := by
  simp [State.endFrame]

/-! ## The installation of a policy command -/

@[simp] theorem State.install_pending (c : PolicyCommand) : (s.install c).pending = s.pending := by
  cases c <;> simp only [State.install]
  split <;> rfl

@[simp] theorem State.install_brst (c : PolicyCommand) : (s.install c).brst = s.brst := by
  cases c <;> simp only [State.install]
  split <;> rfl

@[simp] theorem State.install_tracker (c : PolicyCommand) : (s.install c).tracker = s.tracker := by
  cases c <;> simp only [State.install]
  split <;> rfl

@[simp] theorem State.install_violations (c : PolicyCommand) : (s.install c).violations = s.violations := by
  cases c <;> simp only [State.install]
  split <;> rfl

@[simp] theorem State.install_comparators (c : PolicyCommand) : (s.install c).comparators = s.comparators := by
  cases c <;> simp only [State.install]
  split <;> rfl

@[simp] theorem State.install_sequencer (c : PolicyCommand) : (s.install c).sequencer = s.sequencer := by
  cases c <;> simp only [State.install]
  split <;> rfl

@[simp] theorem State.install_capture (c : PolicyCommand) : (s.install c).capture = s.capture := by
  cases c <;> simp only [State.install]
  split <;> rfl

@[simp] theorem State.install_link (c : PolicyCommand) : (s.install c).link = s.link := by
  cases c <;> simp only [State.install]
  split <;> rfl

@[simp] theorem State.install_flags (c : PolicyCommand) : (s.install c).flags = s.flags := by
  cases c <;> simp only [State.install]
  split <;> rfl

@[simp] theorem State.install_port (c : PolicyCommand) : (s.install c).port = s.port := by
  cases c <;> simp only [State.install]
  split <;> rfl

@[simp] theorem State.install_refTimer (c : PolicyCommand) : (s.install c).refTimer = s.refTimer := by
  cases c <;> simp only [State.install]
  split <;> rfl

@[simp] theorem State.install_upstream (c : PolicyCommand) : (s.install c).upstream = s.upstream := by
  cases c <;> simp only [State.install]
  split <;> rfl

@[simp] theorem State.install_downstream (c : PolicyCommand) : (s.install c).downstream = s.downstream := by
  cases c <;> simp only [State.install]
  split <;> rfl

@[simp] theorem State.install_tld (c : PolicyCommand) : (s.install c).tld = s.tld := by
  cases c <;> simp only [State.install]
  split <;> rfl

@[simp] theorem State.install_mdo (c : PolicyCommand) : (s.install c).mdo = s.mdo := by
  cases c <;> simp only [State.install]
  split <;> rfl

@[simp] theorem State.install_freeCount (c : PolicyCommand) : (s.install c).freeCount = s.freeCount := by
  cases c <;> simp only [State.install]
  split <;> rfl

/-! ## The installation of the waiting command -/

@[simp] theorem State.installPending_pending : (s.installPending).pending = s.pending := by
  unfold State.installPending
  split <;> simp

@[simp] theorem State.installPending_brst : (s.installPending).brst = s.brst := by
  unfold State.installPending
  split <;> simp

@[simp] theorem State.installPending_tracker : (s.installPending).tracker = s.tracker := by
  unfold State.installPending
  split <;> simp

@[simp] theorem State.installPending_violations : (s.installPending).violations = s.violations := by
  unfold State.installPending
  split <;> simp

@[simp] theorem State.installPending_comparators : (s.installPending).comparators = s.comparators := by
  unfold State.installPending
  split <;> simp

@[simp] theorem State.installPending_sequencer : (s.installPending).sequencer = s.sequencer := by
  unfold State.installPending
  split <;> simp

@[simp] theorem State.installPending_capture : (s.installPending).capture = s.capture := by
  unfold State.installPending
  split <;> simp

@[simp] theorem State.installPending_link : (s.installPending).link = s.link := by
  unfold State.installPending
  split <;> simp

@[simp] theorem State.installPending_refTimer : (s.installPending).refTimer = s.refTimer := by
  unfold State.installPending
  split <;> simp

@[simp] theorem State.installPending_upstream : (s.installPending).upstream = s.upstream := by
  unfold State.installPending
  split <;> simp

@[simp] theorem State.installPending_downstream : (s.installPending).downstream = s.downstream := by
  unfold State.installPending
  split <;> simp

@[simp] theorem State.installPending_tld : (s.installPending).tld = s.tld := by
  unfold State.installPending
  split <;> simp

@[simp] theorem State.installPending_mdo : (s.installPending).mdo = s.mdo := by
  unfold State.installPending
  split <;> simp

@[simp] theorem State.installPending_freeCount : (s.installPending).freeCount = s.freeCount := by
  unfold State.installPending
  split <;> simp

/-! ## A violation taken -/

@[simp] theorem State.takeViolation_pending (v : Violation) : (s.takeViolation v).pending = s.pending := by
  unfold State.takeViolation
  (repeat' split) <;> simp

@[simp] theorem State.takeViolation_brst (v : Violation) : (s.takeViolation v).brst = s.brst := by
  unfold State.takeViolation
  (repeat' split) <;> simp

@[simp] theorem State.takeViolation_tracker (v : Violation) : (s.takeViolation v).tracker = s.tracker := by
  unfold State.takeViolation
  (repeat' split) <;> simp

@[simp] theorem State.takeViolation_table (v : Violation) : (s.takeViolation v).table = s.table := by
  unfold State.takeViolation
  (repeat' split) <;> simp

@[simp] theorem State.takeViolation_comparators (v : Violation) :
    (s.takeViolation v).comparators = s.comparators := by
  unfold State.takeViolation
  (repeat' split) <;> simp

@[simp] theorem State.takeViolation_sequencer (v : Violation) : (s.takeViolation v).sequencer = s.sequencer := by
  unfold State.takeViolation
  (repeat' split) <;> simp

@[simp] theorem State.takeViolation_capture (v : Violation) : (s.takeViolation v).capture = s.capture := by
  unfold State.takeViolation
  (repeat' split) <;> simp

@[simp] theorem State.takeViolation_link (v : Violation) : (s.takeViolation v).link = s.link := by
  unfold State.takeViolation
  (repeat' split) <;> simp

@[simp] theorem State.takeViolation_port (v : Violation) : (s.takeViolation v).port = s.port := by
  unfold State.takeViolation
  (repeat' split) <;> simp

@[simp] theorem State.takeViolation_refTimer (v : Violation) : (s.takeViolation v).refTimer = s.refTimer := by
  unfold State.takeViolation
  (repeat' split) <;> simp

@[simp] theorem State.takeViolation_upstream (v : Violation) : (s.takeViolation v).upstream = s.upstream := by
  unfold State.takeViolation
  (repeat' split) <;> simp

@[simp] theorem State.takeViolation_downstream (v : Violation) : (s.takeViolation v).downstream = s.downstream := by
  unfold State.takeViolation
  (repeat' split) <;> simp

@[simp] theorem State.takeViolation_tld (v : Violation) : (s.takeViolation v).tld = s.tld := by
  unfold State.takeViolation
  (repeat' split) <;> simp

@[simp] theorem State.takeViolation_mdo (v : Violation) : (s.takeViolation v).mdo = s.mdo := by
  unfold State.takeViolation
  (repeat' split) <;> simp

@[simp] theorem State.takeViolation_freeCount (v : Violation) : (s.takeViolation v).freeCount = s.freeCount := by
  unfold State.takeViolation
  (repeat' split) <;> simp

/-! ## A violation handed on -/

@[simp] theorem State.handOn_pending (n : Ordinal) (r : Request) (v : Verdict) :
    (s.handOn n r v).pending = s.pending := by
  unfold State.handOn
  (repeat' split) <;> simp

@[simp] theorem State.handOn_brst (n : Ordinal) (r : Request) (v : Verdict) : (s.handOn n r v).brst = s.brst := by
  unfold State.handOn
  (repeat' split) <;> simp

@[simp] theorem State.handOn_tracker (n : Ordinal) (r : Request) (v : Verdict) :
    (s.handOn n r v).tracker = s.tracker := by
  unfold State.handOn
  (repeat' split) <;> simp

@[simp] theorem State.handOn_table (n : Ordinal) (r : Request) (v : Verdict) : (s.handOn n r v).table = s.table := by
  unfold State.handOn
  (repeat' split) <;> simp

@[simp] theorem State.handOn_comparators (n : Ordinal) (r : Request) (v : Verdict) :
    (s.handOn n r v).comparators = s.comparators := by
  unfold State.handOn
  (repeat' split) <;> simp

@[simp] theorem State.handOn_sequencer (n : Ordinal) (r : Request) (v : Verdict) :
    (s.handOn n r v).sequencer = s.sequencer := by
  unfold State.handOn
  (repeat' split) <;> simp

@[simp] theorem State.handOn_capture (n : Ordinal) (r : Request) (v : Verdict) :
    (s.handOn n r v).capture = s.capture := by
  unfold State.handOn
  (repeat' split) <;> simp

@[simp] theorem State.handOn_link (n : Ordinal) (r : Request) (v : Verdict) : (s.handOn n r v).link = s.link := by
  unfold State.handOn
  (repeat' split) <;> simp

@[simp] theorem State.handOn_port (n : Ordinal) (r : Request) (v : Verdict) : (s.handOn n r v).port = s.port := by
  unfold State.handOn
  (repeat' split) <;> simp

@[simp] theorem State.handOn_refTimer (n : Ordinal) (r : Request) (v : Verdict) :
    (s.handOn n r v).refTimer = s.refTimer := by
  unfold State.handOn
  (repeat' split) <;> simp

@[simp] theorem State.handOn_upstream (n : Ordinal) (r : Request) (v : Verdict) :
    (s.handOn n r v).upstream = s.upstream := by
  unfold State.handOn
  (repeat' split) <;> simp

@[simp] theorem State.handOn_downstream (n : Ordinal) (r : Request) (v : Verdict) :
    (s.handOn n r v).downstream = s.downstream := by
  unfold State.handOn
  (repeat' split) <;> simp

@[simp] theorem State.handOn_tld (n : Ordinal) (r : Request) (v : Verdict) : (s.handOn n r v).tld = s.tld := by
  unfold State.handOn
  (repeat' split) <;> simp

@[simp] theorem State.handOn_mdo (n : Ordinal) (r : Request) (v : Verdict) : (s.handOn n r v).mdo = s.mdo := by
  unfold State.handOn
  (repeat' split) <;> simp

@[simp] theorem State.handOn_freeCount (n : Ordinal) (r : Request) (v : Verdict) :
    (s.handOn n r v).freeCount = s.freeCount := by
  unfold State.handOn
  (repeat' split) <;> simp

/-! ## The judgment of a new head -/

@[simp] theorem State.judgeNewHead_pending : (s.judgeNewHead).pending = s.pending := by
  unfold State.judgeNewHead
  (repeat' split) <;> rfl

@[simp] theorem State.judgeNewHead_brst : (s.judgeNewHead).brst = s.brst := by
  unfold State.judgeNewHead
  (repeat' split) <;> rfl

@[simp] theorem State.judgeNewHead_table : (s.judgeNewHead).table = s.table := by
  unfold State.judgeNewHead
  (repeat' split) <;> rfl

@[simp] theorem State.judgeNewHead_guardUnit : (s.judgeNewHead).guardUnit = s.guardUnit := by
  unfold State.judgeNewHead
  (repeat' split) <;> rfl

@[simp] theorem State.judgeNewHead_violations : (s.judgeNewHead).violations = s.violations := by
  unfold State.judgeNewHead
  (repeat' split) <;> rfl

@[simp] theorem State.judgeNewHead_comparators : (s.judgeNewHead).comparators = s.comparators := by
  unfold State.judgeNewHead
  (repeat' split) <;> rfl

@[simp] theorem State.judgeNewHead_sequencer : (s.judgeNewHead).sequencer = s.sequencer := by
  unfold State.judgeNewHead
  (repeat' split) <;> rfl

@[simp] theorem State.judgeNewHead_capture : (s.judgeNewHead).capture = s.capture := by
  unfold State.judgeNewHead
  (repeat' split) <;> rfl

@[simp] theorem State.judgeNewHead_link : (s.judgeNewHead).link = s.link := by
  unfold State.judgeNewHead
  (repeat' split) <;> rfl

@[simp] theorem State.judgeNewHead_flags : (s.judgeNewHead).flags = s.flags := by
  unfold State.judgeNewHead
  (repeat' split) <;> rfl

@[simp] theorem State.judgeNewHead_port : (s.judgeNewHead).port = s.port := by
  unfold State.judgeNewHead
  (repeat' split) <;> rfl

@[simp] theorem State.judgeNewHead_refTimer : (s.judgeNewHead).refTimer = s.refTimer := by
  unfold State.judgeNewHead
  (repeat' split) <;> rfl

@[simp] theorem State.judgeNewHead_upstream : (s.judgeNewHead).upstream = s.upstream := by
  unfold State.judgeNewHead
  (repeat' split) <;> rfl

@[simp] theorem State.judgeNewHead_downstream : (s.judgeNewHead).downstream = s.downstream := by
  unfold State.judgeNewHead
  (repeat' split) <;> rfl

@[simp] theorem State.judgeNewHead_tld : (s.judgeNewHead).tld = s.tld := by
  unfold State.judgeNewHead
  (repeat' split) <;> rfl

@[simp] theorem State.judgeNewHead_mdo : (s.judgeNewHead).mdo = s.mdo := by
  unfold State.judgeNewHead
  (repeat' split) <;> rfl

@[simp] theorem State.judgeNewHead_freeCount : (s.judgeNewHead).freeCount = s.freeCount := by
  unfold State.judgeNewHead
  (repeat' split) <;> rfl

/-! ## Steps 1 to 5 of a completion -/

@[simp] theorem State.completeHead_pending (e : Entry) (fits timeout : Bool) :
    (s.completeHead e fits timeout).pending = s.pending := by
  simp [State.completeHead]

@[simp] theorem State.completeHead_brst (e : Entry) (fits timeout : Bool) :
    (s.completeHead e fits timeout).brst = s.brst := by
  simp [State.completeHead]

@[simp] theorem State.completeHead_table (e : Entry) (fits timeout : Bool) :
    (s.completeHead e fits timeout).table = s.table := by
  simp [State.completeHead]

@[simp] theorem State.completeHead_guardUnit (e : Entry) (fits timeout : Bool) :
    (s.completeHead e fits timeout).guardUnit = s.guardUnit := by
  simp [State.completeHead]

@[simp] theorem State.completeHead_violations (e : Entry) (fits timeout : Bool) :
    (s.completeHead e fits timeout).violations = s.violations := by
  simp [State.completeHead]

@[simp] theorem State.completeHead_comparators (e : Entry) (fits timeout : Bool) :
    (s.completeHead e fits timeout).comparators = s.comparators := by
  simp [State.completeHead]

@[simp] theorem State.completeHead_port (e : Entry) (fits timeout : Bool) :
    (s.completeHead e fits timeout).port = s.port := by
  simp [State.completeHead]

@[simp] theorem State.completeHead_refTimer (e : Entry) (fits timeout : Bool) :
    (s.completeHead e fits timeout).refTimer = s.refTimer := by
  simp [State.completeHead]

@[simp] theorem State.completeHead_downstream (e : Entry) (fits timeout : Bool) :
    (s.completeHead e fits timeout).downstream = s.downstream := by
  simp [State.completeHead]

@[simp] theorem State.completeHead_tld (e : Entry) (fits timeout : Bool) :
    (s.completeHead e fits timeout).tld = s.tld := by
  simp [State.completeHead]

@[simp] theorem State.completeHead_mdo (e : Entry) (fits timeout : Bool) :
    (s.completeHead e fits timeout).mdo = s.mdo := by
  simp [State.completeHead]

@[simp] theorem State.completeHead_freeCount (e : Entry) (fits timeout : Bool) :
    (s.completeHead e fits timeout).freeCount = s.freeCount := by
  simp [State.completeHead]

/-! ## A completion -/

@[simp] theorem State.complete_pending (e : Entry) (fits timeout : Bool) :
    (s.complete e fits timeout).pending = s.pending := by
  simp [State.complete]

@[simp] theorem State.complete_brst (e : Entry) (fits timeout : Bool) :
    (s.complete e fits timeout).brst = s.brst := by
  simp [State.complete]

@[simp] theorem State.complete_table (e : Entry) (fits timeout : Bool) :
    (s.complete e fits timeout).table = s.table := by
  simp [State.complete]

@[simp] theorem State.complete_guardUnit (e : Entry) (fits timeout : Bool) :
    (s.complete e fits timeout).guardUnit = s.guardUnit := by
  simp [State.complete]

@[simp] theorem State.complete_violations (e : Entry) (fits timeout : Bool) :
    (s.complete e fits timeout).violations = s.violations := by
  simp [State.complete]

@[simp] theorem State.complete_comparators (e : Entry) (fits timeout : Bool) :
    (s.complete e fits timeout).comparators = s.comparators := by
  simp [State.complete]

@[simp] theorem State.complete_port (e : Entry) (fits timeout : Bool) :
    (s.complete e fits timeout).port = s.port := by
  simp [State.complete]

@[simp] theorem State.complete_refTimer (e : Entry) (fits timeout : Bool) :
    (s.complete e fits timeout).refTimer = s.refTimer := by
  simp [State.complete]

@[simp] theorem State.complete_downstream (e : Entry) (fits timeout : Bool) :
    (s.complete e fits timeout).downstream = s.downstream := by
  simp [State.complete]

@[simp] theorem State.complete_tld (e : Entry) (fits timeout : Bool) : (s.complete e fits timeout).tld = s.tld := by
  simp [State.complete]

@[simp] theorem State.complete_mdo (e : Entry) (fits timeout : Bool) : (s.complete e fits timeout).mdo = s.mdo := by
  simp [State.complete]

@[simp] theorem State.complete_freeCount (e : Entry) (fits timeout : Bool) :
    (s.complete e fits timeout).freeCount = s.freeCount := by
  simp [State.complete]

/-! ## The judgment of the head -/

@[simp] theorem State.judgeHead_pending : (s.judgeHead).pending = s.pending := by
  unfold State.judgeHead
  (repeat' split) <;> simp

@[simp] theorem State.judgeHead_brst : (s.judgeHead).brst = s.brst := by
  unfold State.judgeHead
  (repeat' split) <;> simp

@[simp] theorem State.judgeHead_table : (s.judgeHead).table = s.table := by
  unfold State.judgeHead
  (repeat' split) <;> simp

@[simp] theorem State.judgeHead_guardUnit : (s.judgeHead).guardUnit = s.guardUnit := by
  unfold State.judgeHead
  (repeat' split) <;> simp

@[simp] theorem State.judgeHead_violations : (s.judgeHead).violations = s.violations := by
  unfold State.judgeHead
  (repeat' split) <;> simp

@[simp] theorem State.judgeHead_comparators : (s.judgeHead).comparators = s.comparators := by
  unfold State.judgeHead
  (repeat' split) <;> simp

@[simp] theorem State.judgeHead_port : (s.judgeHead).port = s.port := by
  unfold State.judgeHead
  (repeat' split) <;> simp

@[simp] theorem State.judgeHead_refTimer : (s.judgeHead).refTimer = s.refTimer := by
  unfold State.judgeHead
  (repeat' split) <;> simp

@[simp] theorem State.judgeHead_downstream : (s.judgeHead).downstream = s.downstream := by
  unfold State.judgeHead
  (repeat' split) <;> simp

@[simp] theorem State.judgeHead_tld : (s.judgeHead).tld = s.tld := by
  unfold State.judgeHead
  (repeat' split) <;> simp

@[simp] theorem State.judgeHead_mdo : (s.judgeHead).mdo = s.mdo := by
  unfold State.judgeHead
  (repeat' split) <;> simp

@[simp] theorem State.judgeHead_freeCount : (s.judgeHead).freeCount = s.freeCount := by
  unfold State.judgeHead
  (repeat' split) <;> simp

/-! ## The judgment after a happening that may change the answer -/

@[simp] theorem State.rejudge_pending : (s.rejudge).pending = s.pending := by
  unfold State.rejudge
  split <;> simp

@[simp] theorem State.rejudge_brst : (s.rejudge).brst = s.brst := by
  unfold State.rejudge
  split <;> simp

@[simp] theorem State.rejudge_table : (s.rejudge).table = s.table := by
  unfold State.rejudge
  split <;> simp

@[simp] theorem State.rejudge_guardUnit : (s.rejudge).guardUnit = s.guardUnit := by
  unfold State.rejudge
  split <;> simp

@[simp] theorem State.rejudge_violations : (s.rejudge).violations = s.violations := by
  unfold State.rejudge
  split <;> simp

@[simp] theorem State.rejudge_comparators : (s.rejudge).comparators = s.comparators := by
  unfold State.rejudge
  split <;> simp

@[simp] theorem State.rejudge_port : (s.rejudge).port = s.port := by
  unfold State.rejudge
  split <;> simp

@[simp] theorem State.rejudge_refTimer : (s.rejudge).refTimer = s.refTimer := by
  unfold State.rejudge
  split <;> simp

@[simp] theorem State.rejudge_downstream : (s.rejudge).downstream = s.downstream := by
  unfold State.rejudge
  split <;> simp

@[simp] theorem State.rejudge_tld : (s.rejudge).tld = s.tld := by
  unfold State.rejudge
  split <;> simp

@[simp] theorem State.rejudge_mdo : (s.rejudge).mdo = s.mdo := by
  unfold State.rejudge
  split <;> simp

@[simp] theorem State.rejudge_freeCount : (s.rejudge).freeCount = s.freeCount := by
  unfold State.rejudge
  split <;> simp

/-! ## The stall limit -/

@[simp] theorem State.timeout_pending : (s.timeout).pending = s.pending := by
  unfold State.timeout
  split <;> simp

@[simp] theorem State.timeout_brst : (s.timeout).brst = s.brst := by
  unfold State.timeout
  split <;> simp

@[simp] theorem State.timeout_table : (s.timeout).table = s.table := by
  unfold State.timeout
  split <;> simp

@[simp] theorem State.timeout_guardUnit : (s.timeout).guardUnit = s.guardUnit := by
  unfold State.timeout
  split <;> simp

@[simp] theorem State.timeout_violations : (s.timeout).violations = s.violations := by
  unfold State.timeout
  split <;> simp

@[simp] theorem State.timeout_comparators : (s.timeout).comparators = s.comparators := by
  unfold State.timeout
  split <;> simp

@[simp] theorem State.timeout_port : (s.timeout).port = s.port := by
  unfold State.timeout
  split <;> simp

@[simp] theorem State.timeout_refTimer : (s.timeout).refTimer = s.refTimer := by
  unfold State.timeout
  split <;> simp

@[simp] theorem State.timeout_downstream : (s.timeout).downstream = s.downstream := by
  unfold State.timeout
  split <;> simp

@[simp] theorem State.timeout_tld : (s.timeout).tld = s.tld := by
  unfold State.timeout
  split <;> simp

@[simp] theorem State.timeout_mdo : (s.timeout).mdo = s.mdo := by
  unfold State.timeout
  split <;> simp

@[simp] theorem State.timeout_freeCount : (s.timeout).freeCount = s.freeCount := by
  unfold State.timeout
  split <;> simp

/-! ## The judgment after SET_CAPTURE -/

@[simp] theorem State.rejudgeUnderLimit_pending : (s.rejudgeUnderLimit).pending = s.pending := by
  unfold State.rejudgeUnderLimit
  dsimp only
  (repeat' split) <;> simp

@[simp] theorem State.rejudgeUnderLimit_brst : (s.rejudgeUnderLimit).brst = s.brst := by
  unfold State.rejudgeUnderLimit
  dsimp only
  (repeat' split) <;> simp

@[simp] theorem State.rejudgeUnderLimit_table : (s.rejudgeUnderLimit).table = s.table := by
  unfold State.rejudgeUnderLimit
  dsimp only
  (repeat' split) <;> simp

@[simp] theorem State.rejudgeUnderLimit_guardUnit : (s.rejudgeUnderLimit).guardUnit = s.guardUnit := by
  unfold State.rejudgeUnderLimit
  dsimp only
  (repeat' split) <;> simp

@[simp] theorem State.rejudgeUnderLimit_violations : (s.rejudgeUnderLimit).violations = s.violations := by
  unfold State.rejudgeUnderLimit
  dsimp only
  (repeat' split) <;> simp

@[simp] theorem State.rejudgeUnderLimit_comparators : (s.rejudgeUnderLimit).comparators = s.comparators := by
  unfold State.rejudgeUnderLimit
  dsimp only
  (repeat' split) <;> simp

@[simp] theorem State.rejudgeUnderLimit_port : (s.rejudgeUnderLimit).port = s.port := by
  unfold State.rejudgeUnderLimit
  dsimp only
  (repeat' split) <;> simp

@[simp] theorem State.rejudgeUnderLimit_refTimer : (s.rejudgeUnderLimit).refTimer = s.refTimer := by
  unfold State.rejudgeUnderLimit
  dsimp only
  (repeat' split) <;> simp

@[simp] theorem State.rejudgeUnderLimit_downstream : (s.rejudgeUnderLimit).downstream = s.downstream := by
  unfold State.rejudgeUnderLimit
  dsimp only
  (repeat' split) <;> simp

@[simp] theorem State.rejudgeUnderLimit_tld : (s.rejudgeUnderLimit).tld = s.tld := by
  unfold State.rejudgeUnderLimit
  dsimp only
  (repeat' split) <;> simp

@[simp] theorem State.rejudgeUnderLimit_mdo : (s.rejudgeUnderLimit).mdo = s.mdo := by
  unfold State.rejudgeUnderLimit
  dsimp only
  (repeat' split) <;> simp

@[simp] theorem State.rejudgeUnderLimit_freeCount : (s.rejudgeUnderLimit).freeCount = s.freeCount := by
  unfold State.rejudgeUnderLimit
  dsimp only
  (repeat' split) <;> simp

/-! ## The close of a lock -/

@[simp] theorem State.closeLock_pending : (s.closeLock).pending = s.pending := by
  simp [State.closeLock]

@[simp] theorem State.closeLock_brst : (s.closeLock).brst = s.brst := by
  simp [State.closeLock]

@[simp] theorem State.closeLock_violations : (s.closeLock).violations = s.violations := by
  simp [State.closeLock]

@[simp] theorem State.closeLock_comparators : (s.closeLock).comparators = s.comparators := by
  simp [State.closeLock]

@[simp] theorem State.closeLock_sequencer : (s.closeLock).sequencer = s.sequencer := by
  simp [State.closeLock]

@[simp] theorem State.closeLock_capture : (s.closeLock).capture = s.capture := by
  simp [State.closeLock]

@[simp] theorem State.closeLock_link : (s.closeLock).link = s.link := by
  simp [State.closeLock]

@[simp] theorem State.closeLock_refTimer : (s.closeLock).refTimer = s.refTimer := by
  simp [State.closeLock]

@[simp] theorem State.closeLock_upstream : (s.closeLock).upstream = s.upstream := by
  simp [State.closeLock]

@[simp] theorem State.closeLock_downstream : (s.closeLock).downstream = s.downstream := by
  simp [State.closeLock]

@[simp] theorem State.closeLock_tld : (s.closeLock).tld = s.tld := by
  simp [State.closeLock]

@[simp] theorem State.closeLock_mdo : (s.closeLock).mdo = s.mdo := by
  simp [State.closeLock]

@[simp] theorem State.closeLock_freeCount : (s.closeLock).freeCount = s.freeCount := by
  simp [State.closeLock]

/-! ## The break of a lock -/

@[simp] theorem State.breakLock_pending : (s.breakLock).pending = s.pending := by
  simp [State.breakLock]

@[simp] theorem State.breakLock_brst : (s.breakLock).brst = s.brst := by
  simp [State.breakLock]

@[simp] theorem State.breakLock_violations : (s.breakLock).violations = s.violations := by
  simp [State.breakLock]

@[simp] theorem State.breakLock_comparators : (s.breakLock).comparators = s.comparators := by
  simp [State.breakLock]

@[simp] theorem State.breakLock_sequencer : (s.breakLock).sequencer = s.sequencer := by
  simp [State.breakLock]

@[simp] theorem State.breakLock_link : (s.breakLock).link = s.link := by
  simp [State.breakLock]

@[simp] theorem State.breakLock_refTimer : (s.breakLock).refTimer = s.refTimer := by
  simp [State.breakLock]

@[simp] theorem State.breakLock_upstream : (s.breakLock).upstream = s.upstream := by
  simp [State.breakLock]

@[simp] theorem State.breakLock_downstream : (s.breakLock).downstream = s.downstream := by
  simp [State.breakLock]

@[simp] theorem State.breakLock_tld : (s.breakLock).tld = s.tld := by
  simp [State.breakLock]

@[simp] theorem State.breakLock_mdo : (s.breakLock).mdo = s.mdo := by
  simp [State.breakLock]

@[simp] theorem State.breakLock_freeCount : (s.breakLock).freeCount = s.freeCount := by
  simp [State.breakLock]

/-! ## The lock at an acceptance -/

@[simp] theorem State.settleLock_pending (closes : Option Lock) (opens : Bool) (r : Request) (v : Verdict) :
    (s.settleLock closes opens r v).1.pending = s.pending := by
  unfold State.settleLock
  (repeat' split) <;> simp

@[simp] theorem State.settleLock_brst (closes : Option Lock) (opens : Bool) (r : Request) (v : Verdict) :
    (s.settleLock closes opens r v).1.brst = s.brst := by
  unfold State.settleLock
  (repeat' split) <;> simp

@[simp] theorem State.settleLock_violations (closes : Option Lock) (opens : Bool) (r : Request) (v : Verdict) :
    (s.settleLock closes opens r v).1.violations = s.violations := by
  unfold State.settleLock
  (repeat' split) <;> simp

@[simp] theorem State.settleLock_comparators (closes : Option Lock) (opens : Bool) (r : Request) (v : Verdict) :
    (s.settleLock closes opens r v).1.comparators = s.comparators := by
  unfold State.settleLock
  (repeat' split) <;> simp

@[simp] theorem State.settleLock_sequencer (closes : Option Lock) (opens : Bool) (r : Request) (v : Verdict) :
    (s.settleLock closes opens r v).1.sequencer = s.sequencer := by
  unfold State.settleLock
  (repeat' split) <;> simp

@[simp] theorem State.settleLock_capture (closes : Option Lock) (opens : Bool) (r : Request) (v : Verdict) :
    (s.settleLock closes opens r v).1.capture = s.capture := by
  unfold State.settleLock
  (repeat' split) <;> simp

@[simp] theorem State.settleLock_link (closes : Option Lock) (opens : Bool) (r : Request) (v : Verdict) :
    (s.settleLock closes opens r v).1.link = s.link := by
  unfold State.settleLock
  (repeat' split) <;> simp

@[simp] theorem State.settleLock_refTimer (closes : Option Lock) (opens : Bool) (r : Request) (v : Verdict) :
    (s.settleLock closes opens r v).1.refTimer = s.refTimer := by
  unfold State.settleLock
  (repeat' split) <;> simp

@[simp] theorem State.settleLock_upstream (closes : Option Lock) (opens : Bool) (r : Request) (v : Verdict) :
    (s.settleLock closes opens r v).1.upstream = s.upstream := by
  unfold State.settleLock
  (repeat' split) <;> simp

@[simp] theorem State.settleLock_downstream (closes : Option Lock) (opens : Bool) (r : Request) (v : Verdict) :
    (s.settleLock closes opens r v).1.downstream = s.downstream := by
  unfold State.settleLock
  (repeat' split) <;> simp

@[simp] theorem State.settleLock_tld (closes : Option Lock) (opens : Bool) (r : Request) (v : Verdict) :
    (s.settleLock closes opens r v).1.tld = s.tld := by
  unfold State.settleLock
  (repeat' split) <;> simp

@[simp] theorem State.settleLock_mdo (closes : Option Lock) (opens : Bool) (r : Request) (v : Verdict) :
    (s.settleLock closes opens r v).1.mdo = s.mdo := by
  unfold State.settleLock
  (repeat' split) <;> simp

@[simp] theorem State.settleLock_freeCount (closes : Option Lock) (opens : Bool) (r : Request) (v : Verdict) :
    (s.settleLock closes opens r v).1.freeCount = s.freeCount := by
  unfold State.settleLock
  (repeat' split) <;> simp

/-! ## Acceptance -/

@[simp] theorem State.accept_pending (r : Request) : (s.accept r).pending = s.pending := by
  unfold State.accept
  dsimp only
  (repeat' split) <;> simp

@[simp] theorem State.accept_brst (r : Request) : (s.accept r).brst = s.brst := by
  unfold State.accept
  dsimp only
  (repeat' split) <;> simp

@[simp] theorem State.accept_comparators (r : Request) : (s.accept r).comparators = s.comparators := by
  unfold State.accept
  dsimp only
  (repeat' split) <;> simp

@[simp] theorem State.accept_sequencer (r : Request) : (s.accept r).sequencer = s.sequencer := by
  unfold State.accept
  dsimp only
  (repeat' split) <;> simp

@[simp] theorem State.accept_link (r : Request) : (s.accept r).link = s.link := by
  unfold State.accept
  dsimp only
  (repeat' split) <;> simp

@[simp] theorem State.accept_refTimer (r : Request) : (s.accept r).refTimer = s.refTimer := by
  unfold State.accept
  dsimp only
  (repeat' split) <;> simp

@[simp] theorem State.accept_upstream (r : Request) : (s.accept r).upstream = s.upstream := by
  unfold State.accept
  dsimp only
  (repeat' split) <;> simp

@[simp] theorem State.accept_tld (r : Request) : (s.accept r).tld = s.tld := by
  unfold State.accept
  dsimp only
  (repeat' split) <;> simp

@[simp] theorem State.accept_mdo (r : Request) : (s.accept r).mdo = s.mdo := by
  unfold State.accept
  dsimp only
  (repeat' split) <;> simp

@[simp] theorem State.accept_freeCount (r : Request) : (s.accept r).freeCount = s.freeCount := by
  unfold State.accept
  dsimp only
  (repeat' split) <;> simp

/-! ## The acceptance of the presented request -/

@[simp] theorem State.acceptPresented_pending : (s.acceptPresented).pending = s.pending := by
  unfold State.acceptPresented
  (repeat' split) <;> simp

@[simp] theorem State.acceptPresented_brst : (s.acceptPresented).brst = s.brst := by
  unfold State.acceptPresented
  (repeat' split) <;> simp

@[simp] theorem State.acceptPresented_comparators : (s.acceptPresented).comparators = s.comparators := by
  unfold State.acceptPresented
  (repeat' split) <;> simp

@[simp] theorem State.acceptPresented_sequencer : (s.acceptPresented).sequencer = s.sequencer := by
  unfold State.acceptPresented
  (repeat' split) <;> simp

@[simp] theorem State.acceptPresented_link : (s.acceptPresented).link = s.link := by
  unfold State.acceptPresented
  (repeat' split) <;> simp

@[simp] theorem State.acceptPresented_refTimer : (s.acceptPresented).refTimer = s.refTimer := by
  unfold State.acceptPresented
  (repeat' split) <;> simp

@[simp] theorem State.acceptPresented_upstream : (s.acceptPresented).upstream = s.upstream := by
  unfold State.acceptPresented
  (repeat' split) <;> simp

@[simp] theorem State.acceptPresented_tld : (s.acceptPresented).tld = s.tld := by
  unfold State.acceptPresented
  (repeat' split) <;> simp

@[simp] theorem State.acceptPresented_mdo : (s.acceptPresented).mdo = s.mdo := by
  unfold State.acceptPresented
  (repeat' split) <;> simp

@[simp] theorem State.acceptPresented_freeCount : (s.acceptPresented).freeCount = s.freeCount := by
  unfold State.acceptPresented
  (repeat' split) <;> simp

end Sys2Proof.Machine
end

