-- ==== Sys2Proof/Laws/Ops.lean ====
section
/-! SUPPORT. What each shared operation can do, said once. -/

namespace Sys2Proof.Machine

/-! ## Region table and guard -/

/-- An entry matches as R24 says. -/
theorem RegionSlot.matchesRequest_iff (x : RegionSlot) (r : Request) :
    x.matchesRequest r = true ↔
      x.valid = true ∧ x.image.base ≤ granuleOf r.address ∧ granuleOf r.address ≤ x.image.limit ∧
        x.image.initiators.getLsbD r.initiator.toNat = true := by
  simp [RegionSlot.matchesRequest, and_assoc]

/-- A priority is held where another valid slot has it (R30). -/
theorem RegionTable.priorityHeld_iff (t : RegionTable) (i : Fin 16) (p : BitVec 4) :
    t.priorityHeld i p = true ↔
      ∃ j, j ≠ i ∧ (t.slots.get j).valid = true ∧ (t.slots.get j).image.priority = p := by
  simp [RegionTable.priorityHeld, List.any_eq_true, and_assoc]

/-- The matching locked write of a request that passes R3. -/
theorem Lock.matchedBy_iff (l : Lock) (r : Request) :
    l.matchedBy r = true ↔ r.malformed = none ∧ Matches l r := by
  simp [Lock.matchedBy, Matches, and_assoc]

/-- The acceptance conditions as the statements say them. -/
theorem State.acceptable_iff (s : State) (r : Request) : s.acceptable r = true ↔ Acceptable s r := by
  unfold State.acceptable Acceptable
  cases s.brst
  · cases s.tracker.lock with
    | none =>
      have size : decide (s.tracker.inFlight.length < inFlightCapacity) = true ↔ s.tracker.inFlight.length < 4 :=
        decide_eq_true_iff
      by_cases h : s.tracker.inFlight = [] <;> cases r.lock <;> cases r.direction <;> simp [h, size]
      all_goals decide
    | some l => simp
  · simp

/-- The reasons the tracker finds are unconditional (Table 3-1). -/
theorem malformedReason_unconditional {lock : Option Lock} {r : Request} {reason : Reason}
    (h : malformedReason lock r = some reason) : reason.unconditional = true := by
  have first : ∀ x, r.malformed = some x → x.unconditional = true := by
    intro x hx
    unfold Request.malformed at hx
    split at hx
    · cases hx
      rfl
    · split at hx <;> cases hx
      rfl
  unfold malformedReason at h
  split at h
  · rename_i x hx
    cases h
    exact first _ hx
  · split at h
    · split at h <;> split at h <;> cases h <;> rfl
    · cases h

/-! ## Pending slot -/

/-- A policy command while another waits. -/
theorem State.takePolicy_busy {s : State} {w : Waiting} (h : s.port.slot = some w) (code : Code) (tag : Tag)
    (tested : Except RefusalReason PolicyCommand) :
    s.takePolicy code tag tested = s.answer code tag .busy w.bytes := by
  simp [State.takePolicy, h]

/-- A policy command refused by its owning rule. -/
theorem State.takePolicy_error {s : State} (h : s.port.slot = none) (code : Code) (tag : Tag)
    (reason : RefusalReason) : s.takePolicy code tag (.error reason) = s.refuse code tag reason := by
  simp [State.takePolicy, h]

/-- A policy command installed at once. -/
theorem State.takePolicy_installs {s : State} (h : s.port.slot = none) (h' : s.tracker.lock = none) (code : Code)
    (tag : Tag) (c : PolicyCommand) :
    s.takePolicy code tag (.ok c) = (s.install c).answer code tag .ok [] := by
  simp [State.takePolicy, h, h']

/-- A policy command that waits for the lock's end. -/
theorem State.takePolicy_waits {s : State} {l : Lock} (h : s.port.slot = none) (h' : s.tracker.lock = some l)
    (code : Code) (tag : Tag) (c : PolicyCommand) :
    s.takePolicy code tag (.ok c) =
      State.answer { s with port := { s.port with slot := some { tag, command := c } } } code tag .pending [] := by
  simp [State.takePolicy, h, h']

/-- With no command waiting nothing is installed. -/
theorem State.installPending_none {s : State} (h : s.port.slot = none) : s.installPending = s := by
  simp [State.installPending, h]

/-- A waiting command is installed, COMMIT_DONE is set, and the slot becomes EMPTY. -/
theorem State.installPending_some {s : State} {w : Waiting} (h : s.port.slot = some w) :
    s.installPending =
      { s.install w.command with
        flags := { s.flags with events := s.flags.events ||| Flag.mask .commitDone }
        port := { s.port with
          slot := none
          last := { outcome := .installed, code := w.command.code.byte, tag := w.tag } } } := by
  simp [State.installPending, h, State.raise]

/-! ## Violation list -/

/-- What taking a violation can do to the guard: it raises LOCKDOWN from ENFORCE, or nothing. -/
theorem State.takeViolation_guardUnit (s : State) (v : Violation) :
    (s.takeViolation v).guardUnit = s.guardUnit ∨
      s.guardUnit.mode = .enforce ∧ s.guardUnit.escalate = true ∧
        (s.takeViolation v).guardUnit = { s.guardUnit with lockdown := true } := by
  unfold State.takeViolation
  split
  · simp
  · split
    · simp
    · dsimp only
      split
      · rename_i h; exact .inr ⟨h.1, h.2.1, rfl⟩
      · simp

/-- Taking a violation leaves the enables as they are. -/
theorem State.takeViolation_enables (s : State) (v : Violation) :
    (s.takeViolation v).flags.enables = s.flags.enables := by
  unfold State.takeViolation
  split
  · simp
  · split
    · simp
    · dsimp only
      split <;> simp

/-! ## Comparators and sequencer -/

/-- The data a transaction has as seen upstream, as the statements say it (R82). -/
theorem Entry.dataSeen_iff (e : Entry) (v : Beat) : e.dataSeen = some v ↔ DataSeenUpstream e v := by
  unfold DataSeenUpstream Entry.dataSeen
  cases hb : e.request.size.isBurst
  · cases hd : e.request.direction with
    | write =>
      cases e.forwarded <;> cases e.verdict.action <;> simp <;> exact eq_comm
    | read =>
      cases hr : e.result with
      | none => simp
      | some result =>
        obtain ⟨status, data⟩ := result
        cases status <;> simp
        exact eq_comm
  · simp

/-- Satisfying a step, as the statements say it (R90). -/
theorem ProgramStep.satisfiedBy_iff (x : ProgramStep) (m : ComparatorSet) :
    x.satisfiedBy m = true ↔ Satisfies m x := by
  obtain ⟨_, condition, combine, _, _, _⟩ := x
  unfold ProgramStep.satisfiedBy Satisfies
  cases combine <;> simp only [Fin.exists_fin_succ, Fin.forall_fin_succ] <;> revert condition m <;> decide +kernel

/-- Matching a set of comparators (R90). -/
theorem inter_ne_zero_iff (f m : ComparatorSet) :
    (f &&& m != 0#4) = true ↔ ∃ n : Fin 4, f.getLsbD n = true ∧ m.getLsbD n = true := by
  simp only [Fin.exists_fin_succ]
  revert f m
  decide +kernel

/-- The sequencer is ARMED. -/
theorem Sequencer.isArmed_iff (q : Sequencer) : q.isArmed = true ↔ ∃ k r, q.state = .armed k r := by
  unfold Sequencer.isArmed
  cases q.state <;> simp

/-- Stepping changes nothing but the sequencer's state, and nothing at all outside ARMED. -/
theorem Sequencer.step_not_armed {q : Sequencer} (h : q.isArmed = false) (m : ComparatorSet) :
    q.step m = (q.state, .none) := by
  unfold Sequencer.step
  unfold Sequencer.isArmed at h
  cases hq : q.state <;> simp_all

/-! ## Capture -/

/-- A saturating counter is 0 only where nothing has been counted. -/
theorem saturatingAdd_eq_zero_iff (c : BitVec 16) (n : Nat) : saturatingAdd c n = 0#16 ↔ c.toNat + n = 0 := by
  unfold saturatingAdd
  constructor
  · intro h
    have := congrArg BitVec.toNat h
    simp at this
    omega
  · intro h
    simp [h]

/-- Storing records appends them with consecutive sequence numbers (R113). -/
theorem Capture.store_eq (bodies : List RecordBody) (c : Capture) :
    c.store bodies =
      { c with
        buffer := c.buffer ++ bodies.mapIdx fun i body => { sequence := c.sequence + BitVec.ofNat 16 i, body }
        sequence := c.sequence + BitVec.ofNat 16 bodies.length } := by
  induction bodies generalizing c with
  | nil => simp [Capture.store]
  | cons body rest ih =>
    have shift : ∀ i : Nat, c.sequence + 1#16 + BitVec.ofNat 16 i = c.sequence + (BitVec.ofNat 16 i + 1#16) := by
      intro i
      bv_omega
    simp [Capture.store, ih, List.mapIdx_cons, BitVec.ofNat_add, shift]

/-- Storing records behind a LOSS record, if one is due (R126). -/
theorem Capture.storeWithLoss_eq (bodies : List RecordBody) (c : Capture) :
    c.storeWithLoss bodies =
      { c.store ((if c.loss = 0#16 then [] else [.loss c.loss]) ++ bodies) with loss := 0#16 } := by
  unfold Capture.storeWithLoss
  split <;> rename_i h
  · simp at h
    simp [h, Capture.store_eq]
  · simp at h
    simp [h]

/-- A judgment fits where what it needs is 0 or is at or below the space (R116). -/
theorem State.judgment_fits_iff (s : State) (e : Entry) :
    (s.judgment e).fits = true ↔
      let j := s.judgment e
      s.capture.needed j.pair j.own.length j.mark.length = 0 ∨
        s.capture.needed j.pair j.own.length j.mark.length ≤ s.capture.space j.pair := by
  simp [State.judgment]

/-- A judgment rests on the comparators, the sequencer, the capture unit and the lock alone (R120). -/
theorem State.judgment_congr {s t : State} (h1 : t.comparators = s.comparators) (h2 : t.sequencer = s.sequencer)
    (h3 : t.capture = s.capture) (h4 : t.tracker.lock = s.tracker.lock) (e : Entry) :
    t.judgment e = s.judgment e := by
  simp [State.judgment, h1, h2, h3, h4]

/-- The ready head rests on the in-flight list alone. -/
theorem State.readyHead_congr {s t : State} (h : t.tracker.inFlight = s.tracker.inFlight) :
    t.readyHead = s.readyHead := by
  simp [State.readyHead, h]

/-- The ready head is the head, with its result present. -/
theorem State.readyHead_eq_some_iff (s : State) (e : Entry) :
    s.readyHead = some e ↔ e.result.isSome = true ∧ ∃ rest, s.tracker.inFlight = e :: rest := by
  unfold State.readyHead
  cases s.tracker.inFlight with
  | nil => simp
  | cons x rest =>
    by_cases h : x.result.isSome = true
    · simp only [h, if_true, Option.some.injEq, List.cons.injEq]
      constructor
      · rintro rfl
        exact ⟨h, rest, rfl, rfl⟩
      · rintro ⟨-, -, rfl, -⟩
        rfl
    · simp only [h]
      constructor
      · simp
      · rintro ⟨h', -, rfl, -⟩
        exact absurd h' h

/-! ## Trace link -/

/-- A frame starts where one is due, and else nothing changes (R137). -/
theorem State.startFrame_cases (s : State) :
    (s.startFrame = s ∧
        (s.link.state ≠ .running ∨ s.link.frame ≠ none ∨ s.capture.buffer = [] ∨ s.link.credit = 0)) ∨
      ∃ head rest, s.link.state = .running ∧ s.link.frame = none ∧ s.capture.buffer = head :: rest ∧
        0 < s.link.credit ∧
        s.startFrame =
          { s with
            link := { s.link with
              credit := s.link.credit - 1
              frame := some { content := head.frame, position := 0 } }
            capture := { s.capture with inTransmission := true } } := by
  unfold State.startFrame
  split
  · rename_i h1 h2 h3
    split
    · rename_i h4
      exact .inr ⟨_, _, h1, h2, h3, h4, rfl⟩
    · exact .inl ⟨rfl, .inr (.inr (.inr (by omega)))⟩
  · rename_i h
    refine .inl ⟨rfl, ?_⟩
    by_contra hc
    simp only [not_or, ne_eq, not_not] at hc
    obtain ⟨head, rest, hb⟩ := List.exists_cons_of_ne_nil hc.2.2.1
    exact h _ _ hc.1 hc.2.1 hb

/-- After a happening that changed neither the link nor the record in transmission, a frame starts as it is due. -/
theorem State.startFrame_ifDue {s u : State} (hl : u.link = s.link)
    (ht : u.capture.inTransmission = s.capture.inTransmission) : FrameStartsIfDue s u.startFrame := by
  unfold FrameStartsIfDue
  rw [← hl, ← ht]
  rcases u.startFrame_cases with ⟨h, hn⟩ | ⟨head, rest, h1, h2, h3, h4, h⟩ <;> rw [h]
  · refine ⟨fun _ => ⟨rfl, rfl⟩, fun hf hr hc head rest hb => ?_⟩
    rcases hn with hn | hn | hn | hn
    · exact absurd hr hn
    · exact absurd hf hn
    · simp [hn] at hb
    · omega
  · refine ⟨fun hn => ?_, fun _ _ _ head' rest' hb => ?_⟩
    · rcases hn with hn | hn | hn | hn
      · exact absurd h2 hn
      · exact absurd h1 hn
      · omega
      · simp [h3] at hn
    · rw [h3] at hb
      cases hb
      exact ⟨rfl, rfl⟩

/-- The capture unit after the start of a frame is the same but for the record in transmission. -/
theorem State.startFrame_capture (s : State) :
    { s.startFrame.capture with inTransmission := s.capture.inTransmission } = s.capture := by
  rcases s.startFrame_cases with ⟨h, -⟩ | ⟨_, _, _, _, _, _, h⟩ <;> rw [h]

/-- A frame that goes on stays short of its end (R144). -/
theorem Sending.progress_lt {f : Sending} (h : f.position < f.content.length) (n : Nat) :
    f.position ≤ (f.progress n).position ∧ (f.progress n).position < f.content.length := by
  have := Nat.mod_lt n (show f.content.length - f.position > 0 by omega)
  simp only [Sending.progress]
  omega

/-! ## Judgment and completion -/

/-- A new head begins a stall wait where it is ready and short under STALL, and else nothing changes. -/
theorem State.judgeNewHead_cases (s : State) :
    (s.judgeNewHead = s ∧
        ∀ e, s.readyHead = some e → (s.judgment e).fits = true ∨ s.capture.policy = .drop) ∨
      ∃ e, s.readyHead = some e ∧ (s.judgment e).fits = false ∧ s.capture.policy = .stall ∧
        s.judgeNewHead = { s with tracker := { s.tracker with stall := some 0 } } := by
  unfold State.judgeNewHead
  cases h : s.readyHead with
  | none => simp
  | some e =>
    cases hf : (s.judgment e).fits <;> cases s.capture.policy <;> simp [hf]

/-- The judgment of a ready head: it waits where it is short under STALL, and else completes (R120). -/
theorem State.judgeHead_cases {s : State} {e : Entry} (h : s.readyHead = some e) :
    ((s.judgment e).fits = false ∧ s.capture.policy = .stall ∧
        s.judgeHead = { s with tracker := { s.tracker with stall := some (s.tracker.stall.getD 0) } }) ∨
      (((s.judgment e).fits = true ∨ s.capture.policy = .drop) ∧
        s.judgeHead = s.complete e (s.judgment e).fits false) := by
  unfold State.judgeHead
  cases hf : (s.judgment e).fits <;> cases s.capture.policy <;> simp [h, hf]

/-- Without a ready head there is nothing to judge. -/
theorem State.judgeHead_none {s : State} (h : s.readyHead = none) : s.judgeHead = s := by
  simp [State.judgeHead, h]

/-- Outside a stall wait nothing is judged again (R122). -/
theorem State.rejudge_none {s : State} (h : s.tracker.stall = none) : s.rejudge = s := by
  simp [State.rejudge, h]

/-- In a stall wait the head is judged again (R122). -/
theorem State.rejudge_some {s : State} {n : Nat} (h : s.tracker.stall = some n) : s.rejudge = s.judgeHead := by
  simp [State.rejudge, h]

/-- The tracker after steps 1 to 5 of a completion. -/
theorem State.completeHead_tracker (s : State) (e : Entry) (fits timeout : Bool) :
    (s.completeHead e fits timeout).tracker =
      { s.tracker with
        inFlight := s.tracker.inFlight.tail
        lock := lockAfter s.tracker.lock (s.judgment e).pair fits
        stall := none } := by
  simp [State.completeHead]

/-- The sequencer after steps 1 to 5 of a completion (R97). -/
theorem State.completeHead_sequencer (s : State) (e : Entry) (fits timeout : Bool) :
    (s.completeHead e fits timeout).sequencer =
      { s.sequencer with state := (s.sequencer.step (matchSet s.comparators e)).1 } := by
  simp [State.completeHead, State.judgment]

/-- The capture unit after steps 1 to 5 of a completion, but for a frame's start (R121). -/
theorem State.completeHead_capture (s : State) (e : Entry) (fits timeout : Bool) :
    { (s.completeHead e fits timeout).capture with
      inTransmission := (s.capture.complete (s.judgment e) fits).inTransmission } =
      s.capture.complete (s.judgment e) fits := by
  have start : ∀ u : State, ∀ c, u.capture = c →
      { u.startFrame.capture with inTransmission := c.inTransmission } = c := by
    rintro u _ rfl
    exact u.startFrame_capture
  exact start _ _ (by simp)

/-- Storing and dropping leave the record in transmission as it is (R114). -/
theorem Capture.complete_inTransmission (c : Capture) (j : Judgment) (fits : Bool) :
    (c.complete j fits).inTransmission = c.inTransmission := by
  cases fits <;> cases h : j.pair <;>
    simp [Capture.complete, Capture.fitting, Capture.short, Capture.drop, Capture.store_eq,
      Capture.storeWithLoss_eq, h] <;>
    split <;> simp

/-- The trace link and the record in transmission after steps 1 to 5 of a completion (R137). -/
theorem State.completeHead_startsFrame (s : State) (e : Entry) (fits timeout : Bool) :
    FrameStartsIfDue s (s.completeHead e fits timeout) :=
  State.startFrame_ifDue (by simp) (by simp [Capture.complete_inTransmission])

/-- The upstream responses after a completion (R2). -/
theorem State.complete_upstream (s : State) (e : Entry) (fits timeout : Bool) :
    (s.complete e fits timeout).upstream = e.response :: s.upstream := by
  simp [State.complete, State.completeHead]

/-! ## Acceptance -/

/-- The acceptance of the presented request, or nothing (R7). -/
theorem State.acceptPresented_cases (s : State) :
    s.acceptPresented = s ∨
      ∃ r, s.tracker.presented = some r ∧ Acceptable s r ∧ s.acceptPresented = s.accept r := by
  unfold State.acceptPresented
  split
  · exact .inl rfl
  · rename_i r h
    split
    · rename_i h'
      exact .inr ⟨r, h, (s.acceptable_iff r).mp h', rfl⟩
    · exact .inl rfl

/-- The list, the ordinal and the port after an acceptance (R8). -/
theorem State.accept_tracker (s : State) (r : Request) :
    (∃ entry, (s.accept r).tracker.inFlight = s.tracker.inFlight ++ [entry] ∧ entry.ordinal = s.tracker.ordinal ∧
      entry.request = r) ∧
    (s.accept r).tracker.ordinal = s.tracker.ordinal + 1#32 ∧ (s.accept r).tracker.presented = none := by
  have new : ∀ u : State, u.judgeNewHead.tracker.inFlight = u.tracker.inFlight ∧
      u.judgeNewHead.tracker.ordinal = u.tracker.ordinal ∧
      u.judgeNewHead.tracker.presented = u.tracker.presented := by
    intro u
    rcases u.judgeNewHead_cases with ⟨h, -⟩ | ⟨_, _, _, _, h⟩ <;> rw [h] <;> simp
  have settle : ∀ (u : State) closes opens v, (u.settleLock closes opens r v).1.tracker.inFlight = u.tracker.inFlight ∧
      (u.settleLock closes opens r v).1.tracker.ordinal = u.tracker.ordinal ∧
      (u.settleLock closes opens r v).1.tracker.presented = u.tracker.presented := by
    intro u closes opens v
    unfold State.settleLock
    cases closes with
    | some l => simp [State.closeLock]
    | none =>
      cases opens
      · simp
      · cases lockOpenedBy r v <;> simp
  unfold State.accept
  dsimp only
  split <;> simp only [new, settle, State.handOn_tracker] <;> split <;> simp [State.breakLock]

end Sys2Proof.Machine
end

