-- ==== Sys2Proof/Laws/PerInstr.lean ====
section
/-! SUPPORT. Statements made command by command. -/

namespace Sys2Proof.Laws

/-- The arguments of a maintenance command fill its frame to the length of Table 10-1: the code, the tag byte and the
CRC-8 are the other three bytes. -/
def FrameShape.Statement (i : Instr) : Prop :=
  ∀ code tag args, frameParts i = some (code, tag, args) → args.length + 3 = code.frameLength

theorem FrameShape.presentedRequest (request : Request) : Statement (.presentedRequest request) := by
  rintro code tag args ⟨⟩

theorem FrameShape.acceptance : Statement (.acceptance) := by
  rintro code tag args ⟨⟩

theorem FrameShape.downstreamResponse (status : BusStatus) (data : List Beat) :
    Statement (.downstreamResponse status data) := by
  rintro code tag args ⟨⟩

theorem FrameShape.completion : Statement (.completion) := by
  rintro code tag args ⟨⟩

theorem FrameShape.stallLimitRunsOut : Statement (.stallLimitRunsOut) := by
  rintro code tag args ⟨⟩

theorem FrameShape.busReset : Statement (.busReset) := by
  rintro code tag args ⟨⟩

theorem FrameShape.powerOnReset (gstrap : Level) : Statement (.powerOnReset gstrap) := by
  rintro code tag args ⟨⟩

theorem FrameShape.creditPulse : Statement (.creditPulse) := by
  rintro code tag args ⟨⟩

theorem FrameShape.frameEnd : Statement (.frameEnd) := by
  rintro code tag args ⟨⟩

theorem FrameShape.badFrame (bits : List Bool) : Statement (.badFrame bits) := by
  rintro code tag args ⟨⟩

theorem FrameShape.null (tag : Tag) : Statement (.null tag) := by
  rintro code tag args ⟨⟩
  rfl

theorem FrameShape.stageRegion (tag : Tag) (image : RegionArgs) : Statement (.stageRegion tag image) := by
  rintro code tag args ⟨⟩
  rfl

theorem FrameShape.commitRegion (tag : Tag) (slot : BitVec 8) : Statement (.commitRegion tag slot) := by
  rintro code tag args ⟨⟩
  rfl

theorem FrameShape.retireRegion (tag : Tag) (slot : BitVec 8) : Statement (.retireRegion tag slot) := by
  rintro code tag args ⟨⟩
  rfl

theorem FrameShape.readRegion (tag : Tag) (selector : BitVec 8) : Statement (.readRegion tag selector) := by
  rintro code tag args ⟨⟩
  rfl

theorem FrameShape.setDefault (tag : Tag) (attributes : AttributeArgs) (fill : BitVec 32) :
    Statement (.setDefault tag attributes fill) := by
  rintro code tag args ⟨⟩
  rfl

theorem FrameShape.setMode (tag : Tag) (mode : BitVec 8) (escalate : BitVec 8) :
    Statement (.setMode tag mode escalate) := by
  rintro code tag args ⟨⟩
  rfl

theorem FrameShape.readGuard (tag : Tag) : Statement (.readGuard tag) := by
  rintro code tag args ⟨⟩
  rfl

theorem FrameShape.queryPending (tag : Tag) : Statement (.queryPending tag) := by
  rintro code tag args ⟨⟩
  rfl

theorem FrameShape.abortPending (tag : Tag) : Statement (.abortPending tag) := by
  rintro code tag args ⟨⟩
  rfl

theorem FrameShape.readViolation (tag : Tag) (position : BitVec 8) : Statement (.readViolation tag position) := by
  rintro code tag args ⟨⟩
  rfl

theorem FrameShape.ackViolation (tag : Tag) (count : BitVec 8) : Statement (.ackViolation tag count) := by
  rintro code tag args ⟨⟩
  rfl

theorem FrameShape.loadComparator (tag : Tag) (number : BitVec 8) (image : ComparatorArgs) :
    Statement (.loadComparator tag number image) := by
  rintro code tag args ⟨⟩
  rfl

theorem FrameShape.readComparator (tag : Tag) (number : BitVec 8) : Statement (.readComparator tag number) := by
  rintro code tag args ⟨⟩
  rfl

theorem FrameShape.loadStep (tag : Tag) (number : BitVec 8) (image : StepArgs) :
    Statement (.loadStep tag number image) := by
  rintro code tag args ⟨⟩
  rfl

theorem FrameShape.arm (tag : Tag) : Statement (.arm tag) := by
  rintro code tag args ⟨⟩
  rfl

theorem FrameShape.disarm (tag : Tag) : Statement (.disarm tag) := by
  rintro code tag args ⟨⟩
  rfl

theorem FrameShape.readSequencer (tag : Tag) : Statement (.readSequencer tag) := by
  rintro code tag args ⟨⟩
  rfl

theorem FrameShape.setCapture (tag : Tag) (settings : CaptureArgs) : Statement (.setCapture tag settings) := by
  rintro code tag args ⟨⟩
  rfl

theorem FrameShape.readCapture (tag : Tag) : Statement (.readCapture tag) := by
  rintro code tag args ⟨⟩
  rfl

theorem FrameShape.flushTrace (tag : Tag) : Statement (.flushTrace tag) := by
  rintro code tag args ⟨⟩
  rfl

theorem FrameShape.readTrace (tag : Tag) : Statement (.readTrace tag) := by
  rintro code tag args ⟨⟩
  rfl

theorem FrameShape.linkEnable (tag : Tag) : Statement (.linkEnable tag) := by
  rintro code tag args ⟨⟩
  rfl

theorem FrameShape.linkDisable (tag : Tag) : Statement (.linkDisable tag) := by
  rintro code tag args ⟨⟩
  rfl

theorem FrameShape.readFlags (tag : Tag) : Statement (.readFlags tag) := by
  rintro code tag args ⟨⟩
  rfl

theorem FrameShape.clearFlags (tag : Tag) (flags : FlagSet) : Statement (.clearFlags tag flags) := by
  rintro code tag args ⟨⟩
  rfl

theorem FrameShape.setAlertEnable (tag : Tag) (flags : FlagSet) : Statement (.setAlertEnable tag flags) := by
  rintro code tag args ⟨⟩
  rfl

theorem FrameShape.maintReset (tag : Tag) : Statement (.maintReset tag) := by
  rintro code tag args ⟨⟩
  rfl

theorem FrameShape.brstRelease : Statement (.brstRelease) := by
  rintro code tag args ⟨⟩

end Sys2Proof.Laws
end

