-- ==== Sys2Proof/WellFormed.lean ====
section
/-! DEFINITION. Which commands the outside can send: the shapes Table 1-1, R10 and R165 give their operands. -/

namespace Sys2Proof

/-- A WRITE carries one value per beat, each as wide as the beat; a READ carries none (R1). -/
def Request.wellFormed (r : Request) : Bool :=
  match r.direction with
  | .read => r.data.isEmpty
  | .write => r.data.length == r.size.beats && r.data.all (fun v => decide (v.toNat < 256 ^ r.size.beatBytes))

/-- The operands are as the bus, the memory or the port can give them: a request as R1 has it, a memory response
with data only when OKAY and never more than eight beats (R10), a bad frame that fails a check (R165). -/
def Instr.wellFormed : Instr → Bool
  | .presentedRequest request => request.wellFormed
  | .downstreamResponse status data => (status == .okay || data.isEmpty) && data.length ≤ 8
  | .badFrame bits => (frameFailure bits).isSome
  | .acceptance | .completion | .stallLimitRunsOut | .busReset | .powerOnReset _ | .creditPulse | .frameEnd
  | .null _ | .stageRegion _ _ | .commitRegion _ _ | .retireRegion _ _ | .readRegion _ _ | .setDefault _ _ _
  | .setMode _ _ _ | .readGuard _ | .queryPending _ | .abortPending _ | .readViolation _ _ | .ackViolation _ _
  | .loadComparator _ _ _ | .readComparator _ _ | .loadStep _ _ _ | .arm _ | .disarm _ | .readSequencer _
  | .setCapture _ _ | .readCapture _ | .flushTrace _ | .readTrace _ | .linkEnable _ | .linkDisable _
  | .readFlags _ | .clearFlags _ _ | .setAlertEnable _ _ | .maintReset _ | .brstRelease => true

end Sys2Proof
end

