-- ==== Sys2Proof/Tests/Slice0.lean ====
section
/-! SUPPORT. Tests of single commands against the manual's tables and examples, ill-formed operands, and for each
statement with hypotheses a state and operands that meet them. -/

-- Each `decide +kernel` waits for the kernel: one theorem at a time, lest a thread waits for every one of them.
set_option Elab.async false

namespace Sys2Proof.Tests

open Sys2Proof.Machine

/-! ## Helpers -/

/-- Whether a command answers a next state with a property. -/
def gives (c : Instr) (s : State) (p : State → Bool) : Bool :=
  match exec c s with
  | .next t => p t
  | .fault _ | .refused _ => false

/-- The part after a power-on reset with GSTRAP low: BYPASS. -/
def rest : State :=
  State.powerOn .low

/-- A request of initiator 1, USER, DATA. -/
def request (address : Nat) (size : Size) (direction : Direction) (lock : Bool) (data : List Nat) : Request :=
  { address := BitVec.ofNat 36 address, size, direction, kind := .data, privilege := .user, initiator := 1#3, lock
    data := data.map (BitVec.ofNat 64) }

def plainRead : Request := request 0x1000 .b4 .read false []
def plainWrite : Request := request 0x1000 .b4 .write false [5]
def lockedRead : Request := request 0x1000 .b4 .read true []
def lockedWrite : Request := request 0x1000 .b4 .write true [5]

/-- A forwarded transaction in BYPASS. -/
def entry (r : Request) (role : LockRole) (result : Option Result) : Entry :=
  { ordinal := 70#32, request := r, verdict := bypassVerdict, forwarded := true, result, role }

def okay : Option Result := some { status := .okay, data := [7#64] }

/-- The lock of `lockedRead`, its opening read outstanding or not. -/
def openLock (outstanding : Bool) : Lock :=
  { absorbed := false, initiator := 1#3, address := 0x1000#36, size := .b4, matched := .none, traceClass := 0#2
    outstanding, traceDropped := false }

def withList (l : List Entry) (s : State) : State := { s with tracker := { s.tracker with inFlight := l } }
def withLock (s : State) : State := { s with tracker := { s.tracker with lock := some (openLock false) } }
def withRequest (r : Request) (s : State) : State := { s with tracker := { s.tracker with presented := some r } }
def withSlot (c : PolicyCommand) (s : State) : State :=
  { s with port := { s.port with slot := some { tag := 3#4, command := c } } }
def inLockdown (s : State) : State :=
  { s with guardUnit := { s.guardUnit with mode := .enforce, escalate := true, lockdown := true } }
def withLink (state : LinkState) (credit : Nat) (frame : Option Sending) (s : State) : State :=
  { s with link := { state, credit, frame } }

/-- A buffer of `n` records numbered up to the sequence counter, in mode ALWAYS with data capture on. -/
def holding (n : Nat) (policy : FullPolicy) (s : State) : State :=
  { s with
    capture := { s.capture with
      mode := .always, on := true, readData := true, writeData := true, policy, sequence := 500#16
      buffer := (List.range n).map fun i =>
        { sequence := BitVec.ofNat 16 (500 - n + i), body := .mark 0#32 0 false } } }

/-- A full buffer and a ready head that waits, with a stall limit of 10 microseconds. -/
def stalled (count : Nat) : State :=
  let s := holding 64 .stall (withList [entry plainRead .none okay] rest)
  { s with
    tracker := { s.tracker with stall := some count }
    capture := { s.capture with limit := 10#16 } }

def stalledHead : Entry := entry plainRead .none okay

/-- An image that can be committed. -/
def image (priority : BitVec 4) (base limit : Granule) (initiators : InitiatorSet) : RegionImage :=
  { priority, base, limit, initiators, attributes := strapDefaults .high }

def staged (x : RegionImage) (s : State) : State := { s with table := { s.table with staging := some x } }
def committed (i : Fin 16) (x : RegionImage) (s : State) : State := { s with table := s.table.commit i x }

/-- The table of Table 2-6. -/
def table26 : RegionTable :=
  ((((resetTable .high).commit 3 (image 2#4 0x1000#30 0x10FF#30 0x03#8)).commit 7
    (image 0#4 0x1080#30 0x1083#30 0x0E#8)).commit 9 (image 1#4 0x1000#30 0x1FFF#30 0xFF#8)).retire 9

/-- The program of Table 6-6. -/
def program : Sequencer :=
  let step (condition : ComparatorSet) (combine : Combine) (count : BitVec 16) (actions : BitVec 4) (last : Bool) :
      ProgramStep :=
    { defined := true, condition, combine, count, actions := actionsOfBits actions, last }
  { state := .disarmed
    steps := #v[step 2#4 .any 2#16 4#4 false, step 5#4 .all 1#16 0xD#4 false, step 1#4 .any 3#16 6#4 true, clearedStep]
    restart := 8#4 }

def programAt (k : Fin 4) (r : BitVec 16) : Sequencer := { program with state := .armed k r }

/-- A violation of initiator 0 in granule 800h. -/
def denied (first : Ordinal) (count : BitVec 8) : Violation :=
  { first, last := first, address := 0x20010#36, size := .b4, direction := .write, kind := .data, privilege := .user
    initiator := 0#3, matched := .slot 2, reason := .writeDenied, actionTaken := .absorbed, count }

def listing (l : List Violation) (s : State) : State := { s with violations := { s.violations with records := l } }

/-! ## Ill-formed operands -/

/-- R1: a READ carries no data; a WRITE carries one value per beat, no wider than the beat. -/
theorem test_wellFormed_request :
    (Instr.presentedRequest (request 0 .b4 .read false [1])).wellFormed = false ∧
    (Instr.presentedRequest (request 0 .burst2 .write false [1])).wellFormed = false ∧
    (Instr.presentedRequest (request 0 .b1 .write false [256])).wellFormed = false ∧
    (Instr.presentedRequest plainWrite).wellFormed = true := by
  decide

/-- R10: data only with OKAY, eight beats at most. -/
theorem test_wellFormed_response :
    (Instr.downstreamResponse .error [1#64]).wellFormed = false ∧
    (Instr.downstreamResponse .okay (List.replicate 9 1#64)).wellFormed = false ∧
    (Instr.downstreamResponse .okay (List.replicate 8 1#64)).wellFormed = true := by
  decide

/-- R165: a frame that fails no check is no bad frame. -/
theorem test_wellFormed_badFrame :
    (Instr.badFrame (bitsOfBytes [0xF0#8, 0x10#8, 0x64#8])).wellFormed = false ∧
    (Instr.badFrame (bitsOfBytes [0xF0#8, 0x10#8])).wellFormed = true := by
  decide +kernel

/-! ## Frames -/

/-- The frame of section 11.6, and the word spells no command: the table gives no bits. -/
theorem test_frame_maintReset :
    commandOfFrame (bitsOfBytes [0xF0#8, 0x10#8, 0x64#8]) = .maintReset 1#4 ∧ decodeTableWord 24 0x6410F0 = none := by
  decide +kernel

/-- The image of section 11.6. -/
theorem test_image_of_section_11_6 :
    regionOfArgs (regionOfBytes
      [0x01#8, 0x00#8, 0x00#8, 0x08#8, 0x00#8, 0x00#8, 0x00#8, 0x08#8, 0xFF#8, 0x03#8, 0x61#8, 0x62#8]) =
      some
        { priority := 1#4, base := 0x800#30, limit := 0x8FF#30, initiators := 0x03#8
          attributes :=
            { userRights := .read, supervisorRights := .readWrite, userFetch := false, supervisorFetch := true
              denyAction := .absorb, log := true, traceClass := 2#2 } } := by
  decide +kernel

/-- Section 11.6: MAINT_RESET cut after its second byte is BAD_FRAME LENGTH with tag 1 and code F0h. -/
theorem test_badFrame_cut :
    gives (.badFrame (bitsOfBytes [0xF0#8, 0x10#8])) rest (fun t =>
      t.port.held = { status := .badFrame, tag := 1#4, code := 0xF0#8, result := [0x01#8] }) = true := by
  decide +kernel

/-- Section 11.6: the frame after MAINT_RESET shifts out 05h 10h F0h. -/
theorem test_null_shifts_out :
    gives (.maintReset 1#4) rest (fun t =>
      gives (.null 0#4) t (fun u => (u.mdo.headD []).take 24 = bitsOfBytes [0x05#8, 0x10#8, 0xF0#8])) = true := by
  decide +kernel

/-! ## Region table and guard -/

/-- Table 2-7. -/
theorem test_deciding_entries :
    let matched (initiator : Initiator) (address : Address) : Matched :=
      (table26.decidingRecord { plainRead with initiator, address }).1
    matched 1#3 0x42040#36 = .slot 7 ∧ matched 0#3 0x42040#36 = .slot 3 ∧ matched 2#3 0x40100#36 = .default ∧
    matched 2#3 0x420C0#36 = .slot 7 ∧ matched 1#3 0x42100#36 = .slot 3 ∧ matched 5#3 0x42000#36 = .default := by
  decide +kernel

/-- Table 2-8: BAD_RANGE, PRIORITY_CONFLICT, and a commit over the named slot's own priority. -/
theorem test_commitRegion_refusals :
    gives (.commitRegion 0#4 4#8) (staged (image 5#4 0x2000#30 0x1FFF#30 1#8) rest)
      (fun t => t.port.held.result = [0x02#8]) = true ∧
    gives (.commitRegion 0#4 5#8)
      (staged (image 5#4 0x2000#30 0x20FF#30 1#8) (committed 4 (image 5#4 0x2000#30 0x20FF#30 1#8) rest))
      (fun t => t.port.held.result = [0x04#8]) = true ∧
    gives (.commitRegion 0#4 4#8)
      (staged (image 5#4 0x2000#30 0x20FF#30 1#8) (committed 4 (image 5#4 0x2000#30 0x20FF#30 1#8) rest))
      (fun t => t.port.held.status = .ok) = true := by
  decide +kernel

/-- Table 2-8: RETIRE_REGION keeps the fields. -/
theorem test_retireRegion :
    gives (.retireRegion 0#4 5#8) (committed 5 (image 6#4 0x2000#30 0x20FF#30 1#8) rest) (fun t =>
      (t.table.slots.get 5).valid = false ∧ (t.table.slots.get 5).image.priority = 6#4) = true := by
  decide +kernel

/-- R33: a retirement under an open lock waits. -/
theorem test_retireRegion_waits :
    gives (.retireRegion 2#4 5#8) (withLock rest) (fun t =>
      t.port.held.status = .pending ∧ t.port.slot = some { tag := 2#4, command := .retireRegion 5 }) = true := by
  decide +kernel

/-- R30: LOCKED_DOWN comes before the test of the lock. -/
theorem test_setMode_lockedDown :
    gives (.setMode 0#4 0#8 0#8) (inLockdown (withLock rest)) (fun t => t.port.held.result = [0x06#8]) = true := by
  decide +kernel

/-- Table 3-5, with fill pattern A5A5_5A5Ah. -/
theorem test_fill_pattern :
    fillBeat 0xA5A55A5A#32 .b1 = 0x5A#64 ∧ fillBeat 0xA5A55A5A#32 .b2 = 0x5A5A#64 ∧
    fillBeat 0xA5A55A5A#32 .b4 = 0xA5A55A5A#64 ∧ fillBeat 0xA5A55A5A#32 .b8 = 0xA5A55A5AA5A55A5A#64 := by
  decide

/-- Section 5.2: the span of a misaligned burst runs into the next granule. -/
theorem test_span_of_misaligned_burst :
    (request 0x20020 .burst8 .read false []).lastByte = 0x2005F ∧
    (request 0x20020 .burst8 .read false []).malformed = some .malformedAlign := by
  decide

/-! ## Violation list -/

/-- Table 4-4, ordinals 101 and 103: joined in the granule, appended outside it. -/
theorem test_violation_joined :
    ((listing [denied 100#32 1#8] rest).takeViolation (denied 101#32 1#8)).violations.records =
      [{ denied 100#32 2#8 with last := 101#32 }] ∧
    ((listing [denied 100#32 1#8] rest).takeViolation
      { denied 103#32 1#8 with address := 0x20044#36 }).violations.records.length = 2 := by
  decide +kernel

/-- R71, R72: the last record acknowledged, the overflow counter returns to 0. -/
theorem test_ackViolation :
    gives (.ackViolation 0#4 1#8)
      { rest with violations := { records := [denied 100#32 1#8], overflow := 3#16 } }
      (fun t => t.violations.overflow = 0#16 ∧ t.port.held.result = [0#8, 0#8, 0#8]) = true := by
  decide +kernel

/-! ## Comparators and sequencer -/

/-- Table 5-2. -/
theorem test_data_test :
    let c := { clearedComparator with dataValue := 0x123400C3#64, dataMask := 0xFFFF00FF#64 }
    c.maskedCompare .b1 0xC3#64 = true ∧ c.maskedCompare .b2 0x77C3#64 = true ∧
    c.maskedCompare .b4 0x123455C3#64 = true ∧ c.maskedCompare .b4 0x123500C3#64 = false ∧
    c.maskedCompare .b8 0x999999991234AAC3#64 = true := by
  decide

/-- Table 6-7: ordinals 203, 204, 205 and 208. -/
theorem test_sequencer_steps :
    ((programAt 0 1#16).step 0xA#4).1 = .armed 1 1#16 ∧ ((programAt 1 1#16).step 1#4).2 = .none ∧
    (programAt 1 1#16).step 0xA#4 = (.armed 0 2#16, .restart) ∧
    ((programAt 1 1#16).step 5#4).1 = .armed 2 3#16 := by
  decide +kernel

/-- R94: the program of Table 6-6 can be armed, and no program can after a reset. -/
theorem test_arm :
    gives (.arm 0#4) { rest with sequencer := program } (fun t => t.sequencer.state = .armed 0 2#16) = true ∧
    gives (.arm 0#4) rest (fun t => t.port.held.result = [0x09#8]) = true := by
  decide +kernel

/-! ## Capture -/

/-- Table 7-6, ordinals 71 and 74: an opening read needs its two records and the reservation. -/
theorem test_opening_read :
    let s (n : Nat) : State :=
      withList [entry lockedRead .openingRead okay]
        { holding n .drop rest with
          tracker := { rest.tracker with lock := some (openLock true) } }
    gives .completion (s 61) (fun t =>
      t.capture.loss = 2#16 ∧ t.capture.reserved = false ∧ t.capture.buffer.length = 61) = true ∧
    gives .completion (s 60) (fun t =>
      t.capture.loss = 0#16 ∧ t.capture.reserved = true ∧ t.capture.sequence = 502#16) = true := by
  decide +kernel

/-- Table 7-6, ordinal 73: a burst stores the LOSS record and its ADDRESS record. -/
theorem test_loss_record :
    let s := withList [entry (request 0 .burst4 .read false []) .none okay] (holding 58 .drop rest)
    gives .completion { s with capture := { s.capture with loss := 4#16 } } (fun t =>
      t.capture.buffer[58]? = some { sequence := 500#16, body := .loss 4#16 } ∧
      t.capture.buffer.length = 60 ∧ t.capture.loss = 0#16) = true := by
  decide +kernel

/-- R123: the stall limit runs out, and the head completes with its records dropped. -/
theorem test_stallLimitRunsOut :
    gives .stallLimitRunsOut (stalled 0) (fun t =>
      t.tracker.inFlight = [] ∧ t.capture.loss = 2#16 ∧ t.flagSet .stallTimeout ∧ t.flagSet .traceLoss) = true := by
  decide +kernel

/-- R122: a flush ends a wait, and the head's records are stored. -/
theorem test_flushTrace :
    gives (.flushTrace 0#4) (stalled 9) (fun t =>
      t.port.held.result = [64#8] ∧ t.capture.buffer.length = 2 ∧ t.tracker.stall = none ∧
        t.flagSet .stallTimeout = false) = true := by
  decide +kernel

/-- R108: SET_CAPTURE with mode SEQUENCED turns the capture state off. -/
theorem test_setCapture :
    gives (.setCapture 0#4
        { mode := 2#8, filter := 0#4, readData := 0#8, writeData := 0#8, policy := 1#8, limit := 5#16 })
      (holding 3 .drop rest)
      (fun t => t.capture.on = false ∧ t.capture.policy = .stall ∧ t.capture.buffer.length = 3) = true := by
  decide +kernel

/-! ## Trace link and flags -/

/-- Table 8-4: the first credit pulse starts a frame, and a pulse at 8 is an overflow. -/
theorem test_creditPulse :
    gives .creditPulse (withLink .running 0 none (holding 3 .drop rest)) (fun t =>
      t.link.credit = 0 ∧ t.link.frame.isSome ∧ t.capture.inTransmission) = true ∧
    gives .creditPulse (withLink .running 8 none rest) (fun t =>
      t.link.state = .fault ∧ t.link.credit = 8 ∧ t.flagSet .linkError) = true := by
  decide +kernel

/-- Table 8-4: a frame end removes its record and starts the next frame. -/
theorem test_frameEnd :
    let s := withLink .running 2 (some { content := [0x5C#8], position := 0 }) (holding 3 .drop rest)
    gives .frameEnd { s with capture := { s.capture with inTransmission := true } } (fun t =>
      t.link.credit = 1 ∧ t.link.frame.isSome ∧ t.capture.buffer.length = 2) = true := by
  decide +kernel

/-- Table 9-4: CLEAR_FLAGS leaves LINK_ERROR to its condition. -/
theorem test_clearFlags :
    gives (.clearFlags 0#4 0x1010#16)
      (withLink .fault 8 none { rest with flags := { events := 0x1000#16, enables := 0x101E#16 } })
      (fun t => t.flagWord = 0x0010#16 ∧ t.causeCode = 4 ∧ t.alert) = true := by
  decide +kernel

/-! ## Bus -/

/-- R7, R44: a request in BYPASS is accepted and forwarded at once. -/
theorem test_presentedRequest :
    gives (.presentedRequest plainWrite) rest (fun t =>
      t.tracker.inFlight.length = 1 ∧ t.tracker.ordinal = 1#32 ∧ t.downstream.length = 1) = true := by
  decide +kernel

/-- R13: a request that does not match breaks the lock. -/
theorem test_lock_broken :
    gives (.presentedRequest plainWrite) (withLock rest) (fun t =>
      t.tracker.lock = none ∧ t.flagSet .lockBroken) = true := by
  decide +kernel

/-- R14, R20: a bus reset breaks a lock silently and installs the waiting command. -/
theorem test_busReset :
    gives .busReset (withSlot (.setMode .monitor true) (withLock rest)) (fun t =>
      t.tracker.lock = none ∧ t.guardUnit.mode = .monitor ∧ t.flagSet .commitDone ∧
        t.flagSet .lockBroken = false) = true := by
  decide +kernel

/-! ## Witnesses: states and operands that meet the hypotheses of a statement -/

theorem witness_EmptyQueueTakesWhatIsDue :
    (let s := withList [stalledHead] rest
     s.pending = [] ∧ s.readyHead.isSome = true ∧ s.tracker.stall = none) ∧
    (let s := withRequest plainRead rest
     s.pending = [] ∧ s.readyHead = none ∧ s.tracker.presented = some plainRead ∧ Acceptable s plainRead) ∧
    (rest.readyHead = none ∧ rest.tracker.presented = none ∧ rest.tracker.stall = none) ∧
    ((stalled 8).tracker.presented = none ∧ (stalled 8).tracker.stall = some 8 ∧
      8 + 1 < (stalled 8).capture.limit.toNat) ∧
    ((stalled 9).readyHead = some stalledHead ∧ (stalled 9).tracker.stall = some 9 ∧
      (stalled 9).capture.limit ≠ 0#16 ∧ (stalled 9).capture.limit.toNat ≤ 9 + 1) ∧
    (let f : Sending := { content := [0x5C#8], position := 0 }
     (withLink .running 0 (some f) rest).link.frame = some f ∧ f.position < f.content.length) :=
  ⟨by decide +kernel, ⟨by decide +kernel, by decide +kernel, by decide +kernel,
    (State.acceptable_iff _ _).mp (by decide +kernel)⟩, by decide +kernel, by decide +kernel, by decide +kernel,
    by decide +kernel⟩

theorem witness_MaintResetResetsEveryBlock :
    (rest.tracker.stall = none ∧ rest.link.frame = none ∧ rest.port.slot = none) ∧
    ((stalled 0).tracker.stall ≠ none ∧ (stalled 0).readyHead = some stalledHead) ∧
    (let f : Sending := { content := [0x5C#8], position := 0 }
     (withLink .running 0 (some f) rest).link.frame = some f ∧ f.position < f.content.length) := by
  decide +kernel

theorem witness_BusResetDiscardsTheBus :
    (rest.tracker.lock = none) ∧
    (let s := withSlot (.retireRegion 0) (withLock rest)
     s.tracker.lock ≠ none ∧ s.port.slot = some { tag := 3#4, command := .retireRegion 0 }) ∧
    (State.busReset rest).brst = true := by
  decide +kernel

theorem witness_NullFramesRepeatTheHeldResponse : ([0#4, 15#4] : List Tag) ≠ [] := by
  decide

theorem witness_BadFramesAreNotActedOn :
    frameFailure [] = some .length ∧ frameFailure (bitsOfBytes [0xFF#8]) = some .code ∧
    frameFailure (bitsOfBytes [0xF0#8, 0x10#8, 0x65#8]) = some .check := by
  decide +kernel

theorem witness_FrameChecksAreMadeInOrder :
    (bitsOfBytes [0xF0#8]).dropLast.length < 8 ∧
    (8 ≤ (bitsOfBytes [0xFF#8]).length ∧ ∀ code : Code, code.byte ≠ byteOfBits ((bitsOfBytes [0xFF#8]).take 8)) ∧
    (let bits := bitsOfBytes [0xF0#8, 0x10#8]
     Code.byte .maintReset = byteOfBits (bits.take 8) ∧ bits.length ≠ 8 * Code.frameLength .maintReset) ∧
    (let bytes := wholeBytes (bitsOfBytes [0xF0#8, 0x10#8, 0x65#8])
     bytes.getLast? ≠ some (crc8 bytes.dropLast)) ∧
    (let bytes := wholeBytes (bitsOfBytes [0xF0#8, 0x11#8, crc8 [0xF0#8, 0x11#8]])
     bytes.getLast? = some (crc8 bytes.dropLast) ∧ (bytes.getD 1 0#8).setWidth 4 ≠ 0#4) ∧
    frameFailure (bitsOfBytes [0xF0#8, 0x10#8, 0x64#8]) = none :=
  ⟨by decide +kernel, ⟨by decide +kernel, fun code => by cases code <;> decide +kernel⟩, by decide +kernel,
    by decide +kernel, by decide +kernel, by decide +kernel⟩

theorem witness_MaintenanceFramesRoundTrip : frameParts (.ackViolation 15#4 8#8) = some (.ackViolation, 15#4, [8#8]) :=
  rfl

theorem witness_ResponsesLagOneFrame :
    (∃ t, exec (.disarm 3#4) rest = .next t) ∧ frameParts (.disarm 3#4) = some (.disarm, 3#4, []) ∧
    (∃ t, exec .creditPulse rest = .next t) ∧ frameParts .creditPulse = none :=
  ⟨⟨_, rfl⟩, rfl, ⟨_, rfl⟩, rfl⟩

theorem witness_RefusedAndBusyCommandsChangeNothing :
    gives (.arm 0#4) rest (fun t => t.port.held.status = .refused) = true ∧
    gives (.setMode 0#4 0#8 0#8) (withSlot (.retireRegion 0) (withLock rest))
      (fun t => t.port.held.status = .busy) = true := by
  decide +kernel

/-- Every clause of COMMIT_REGION, with slot numbers 15 and 16 at the boundary. -/
theorem witness_CommitRegionTestsThenInstallsOrWaits :
    (withSlot (.retireRegion 0) rest).port.slot = some { tag := 3#4, command := .retireRegion 0 } ∧
    (rest.port.slot = none ∧ (inLockdown rest).guardUnit.lockdown = true ∧ rest.guardUnit.lockdown = false) ∧
    (16 ≤ (16#8).toNat ∧ (15#8).toNat = (15 : Fin 16).val ∧ rest.table.staging = none) ∧
    ((image 5#4 1#30 0#30 1#8).limit < (image 5#4 1#30 0#30 1#8).base) ∧
    (let x := image 5#4 1#30 1#30 0#8
     x.base ≤ x.limit ∧ x.initiators = 0#8) ∧
    (let x := image 5#4 1#30 1#30 1#8
     let s := staged x (committed 4 x rest)
     s.table.staging = some x ∧ x.base ≤ x.limit ∧ x.initiators ≠ 0#8 ∧
     (∃ j : Fin 16, j ≠ 15 ∧ (s.table.slots.get j).valid = true ∧ (s.table.slots.get j).image.priority = x.priority) ∧
     (∀ j : Fin 16, j ≠ 4 → (s.table.slots.get j).valid = true → (s.table.slots.get j).image.priority ≠ x.priority) ∧
     s.tracker.lock = none ∧ (withLock s).tracker.lock ≠ none ∧ (withLock s).port.slot = none) := by
  decide +kernel

/-- For RetireRegionTestsThenInstallsOrWaits, SetDefaultTestsThenInstallsOrWaits and SetModeTestsThenInstallsOrWaits. -/
theorem witness_PolicyCommandsTestThenInstallOrWait :
    (withSlot (.setMode .monitor true) rest).port.slot = some { tag := 3#4, command := .setMode .monitor true } ∧
    (rest.port.slot = none ∧ rest.guardUnit.lockdown = false ∧ (inLockdown rest).guardUnit.lockdown = true) ∧
    (16 ≤ (16#8).toNat ∧ (15#8).toNat = (15 : Fin 16).val ∧ (0#8).toNat = (0 : Fin 16).val) ∧
    (3 ≤ (3#8).toNat ∧ 2 ≤ (2#8).toNat ∧ (2#8).toNat ≤ 2 ∧ (1#8).toNat ≤ 1) ∧
    (rest.tracker.lock = none ∧ (withLock rest).tracker.lock ≠ none) ∧
    AttributesInRange ⟨2#2, 2#2, 1#2, 1#2, 1#2, true, 3#3⟩ ∧ ¬AttributesInRange ⟨3#2, 2#2, 1#2, 1#2, 1#2, true, 3#3⟩ ∧
    ¬AttributesInRange ⟨2#2, 2#2, 2#2, 1#2, 1#2, true, 3#3⟩ ∧ ¬AttributesInRange ⟨2#2, 2#2, 1#2, 1#2, 1#2, true, 4#3⟩ := by
  unfold AttributesInRange
  decide +kernel

/-- For AbortPendingDiscardsTheWaitingCommand too. -/
theorem witness_WaitingCommandIsInstalledWhole :
    rest.port.slot = none ∧
    (withSlot (.commitRegion 15 (image 5#4 1#30 1#30 1#8)) rest).port.slot =
      some { tag := 3#4, command := .commitRegion 15 (image 5#4 1#30 1#30 1#8) } ∧
    (withSlot (.retireRegion 0) rest).port.slot = some { tag := 3#4, command := .retireRegion 0 } ∧
    (withSlot (.setDefault clearedAttributes 9#32) rest).port.slot =
      some { tag := 3#4, command := .setDefault clearedAttributes 9#32 } ∧
    (inLockdown (withSlot (.setMode .bypass false) rest)).port.slot =
      some { tag := 3#4, command := .setMode .bypass false } := by
  decide +kernel

theorem witness_ReadsByNumberReportAndChangeNothing :
    ((15#8).toNat = (15 : Fin 16).val ∧ 0x12 ≤ (0x12#8).toNat ∧ 8 ≤ (8#8).toNat) ∧
    ((7#8).toNat < 8 ∧ rest.violations.records.length ≤ (7#8).toNat) ∧
    (0#8).toNat < (listing [denied 1#32 1#8] rest).violations.records.length ∧
    (4 ≤ (4#8).toNat ∧ (3#8).toNat = (3 : Fin 4).val) := by
  decide +kernel

theorem witness_StageRegionReplacesTheStagingRecord :
    RegionInRange ⟨15#8, 0x3FFFFFFF#32, 0#32, 0#8, ⟨0#2, 0#2, 0#2, 0#2, 0#2, false, 0#3⟩⟩ ∧
    ¬RegionInRange ⟨16#8, 0#32, 0#32, 0#8, ⟨0#2, 0#2, 0#2, 0#2, 0#2, false, 0#3⟩⟩ ∧
    ¬RegionInRange ⟨15#8, 0x40000000#32, 0#32, 0#8, ⟨0#2, 0#2, 0#2, 0#2, 0#2, false, 0#3⟩⟩ := by
  unfold RegionInRange AttributesInRange
  decide +kernel

/-- The table of Table 2-6: two matching entries, one of them the lower; and none. -/
theorem witness_DecidingEntryHasTheLowestPriorityNumber :
    let r : Request := { plainRead with address := 0x42040#36 }
    (table26.slots.get 7).valid = true ∧ (table26.slots.get 7).image.base.toNat ≤ r.address.toNat / 64 ∧
      r.address.toNat / 64 ≤ (table26.slots.get 7).image.limit.toNat ∧
      (table26.slots.get 7).image.initiators.getLsbD r.initiator.toNat = true ∧
      (table26.slots.get 3).matchesRequest r = true ∧
      (∀ i : Fin 16, (table26.slots.get i).matchesRequest { r with initiator := 5#3 } = false) := by
  decide +kernel

theorem witness_MalformedReasonsComeInOrder :
    (¬Size.b4.length ∣ 0x1002) ∧
    (let r := { plainWrite with kind := .fetch }
     r.size.length ∣ r.address.toNat ∧ r.kind = .fetch ∧ r.direction = .write) ∧
    (let r := request 0x1000 .burst2 .read true []
     r.size.length ∣ r.address.toNat ∧ r.lock = true ∧ r.size.isBurst = true) ∧
    (lockedWrite.size.length ∣ lockedWrite.address.toNat ∧ lockedWrite.direction = .write ∧
      lockedRead.direction = .read ∧ plainRead.lock = false) ∧
    Matches (openLock false) lockedWrite ∧ ¬Matches (openLock false) lockedRead := by
  unfold Matches
  decide +kernel

theorem witness_RightsCheckFollowsItsTable :
    plainRead.malformed = none ∧ plainWrite.malformed = none ∧ lockedRead.malformed = none ∧
    ({ plainRead with kind := .fetch } : Request).malformed = none := by
  decide +kernel

theorem witness_VerdictsFollowTheMode :
    rest.guardUnit.mode = .bypass ∧ State.reset.guardUnit.mode = .enforce ∧
    (State.reset.classify none plainWrite).reason = some .writeDenied ∧
    (State.reset.classify (some .lockSequence) plainWrite).reason = some .lockSequence ∧
    ((inLockdown State.reset).guardUnit.lockdown = true ∧ plainWrite.direction = .write) ∧
    (State.reset.classify none { plainRead with privilege := .supervisor }).reason = none := by
  decide +kernel

theorem witness_RefusedAndAbsorbedResultsAreTheParts :
    (State.reset.classify none plainWrite).action = .refuse ∧ (openLock false).absorbedVerdict.action = .absorb ∧
    bypassVerdict.action = .bypass ∧ plainRead.direction = .read ∧ plainWrite.direction = .write := by
  decide +kernel

theorem witness_GuardHandsOnLoggedViolations :
    (State.reset.classify none plainWrite).reason = some .writeDenied ∧
    (State.reset.table.decidingRecord plainWrite).2.log = true ∧
    (let s : State := { State.reset with table := { State.reset.table with defaults := clearedAttributes } }
     (s.table.decidingRecord plainWrite).2.log = false ∧ (s.classify none plainWrite).reason = some .writeDenied) ∧
    (rest.classify none plainWrite).reason = none := by
  decide +kernel

/-- A record with count 254 can be joined, one with 255 cannot; the list has room at 7 and none at 8. -/
theorem witness_ViolationsAreJoinedAppendedOrCounted :
    (let s := listing [denied 1#32 254#8] rest
     s.violations.records = [] ++ [denied 1#32 254#8] ∧ (denied 2#32 1#8).alike (denied 1#32 254#8) ∧
       (denied 1#32 254#8).count.toNat < 255) ∧
    ¬(denied 1#32 255#8).count.toNat < 255 ∧
    (listing (List.replicate 7 (denied 1#32 255#8)) rest).violations.records.length < 8 ∧
    8 ≤ (listing (List.replicate 8 (denied 1#32 255#8)) rest).violations.records.length := by
  unfold Violation.alike
  decide +kernel

theorem witness_AckViolationRemovesTheOldestRecords :
    8 < (9#8).toNat ∧ (1 ≤ (8#8).toNat ∧ (8#8).toNat ≤ 8) ∧
    (let s := listing [denied 1#32 1#8] rest
     s.violations.records.length < (2#8).toNat ∧
       s.violations.records = [denied 1#32 1#8] ++ [] ∧ [denied 1#32 1#8].length = (1#8).toNat) := by
  decide +kernel

theorem witness_PresentedRequestIsAcceptedOrWaits :
    (rest.tracker.presented = none ∧ Acceptable rest plainRead) ∧
    (let s : State := { rest with brst := true }
     s.tracker.presented = none ∧ ¬Acceptable s plainRead) ∧
    (let s : State := { withRequest plainRead rest with brst := true }
     s.tracker.presented = some plainRead ∧ s.brst = true ∧ Acceptable { s with brst := false } plainRead) ∧
    (let s : State := { withRequest lockedRead (withList [stalledHead] rest) with brst := true }
     s.tracker.presented = some lockedRead ∧ ¬Acceptable { s with brst := false } lockedRead) := by
  simp only [← State.acceptable_iff]
  decide +kernel

theorem witness_AcceptanceWithNoLock :
    let s := withRequest plainRead (withList (List.replicate 3 stalledHead) rest)
    s.tracker.presented = some plainRead ∧ Acceptable s plainRead ∧ s.tracker.lock = none ∧ plainRead.lock = false := by
  simp only [← State.acceptable_iff]
  decide +kernel

theorem witness_LockedReadOpensTheLock :
    let s := withRequest lockedRead rest
    s.tracker.presented = some lockedRead ∧ Acceptable s lockedRead ∧ s.tracker.lock = none ∧ lockedRead.lock = true ∧
      lockedRead.direction = .read ∧ lockedRead.malformed = none ∧ (s.classify none lockedRead).action ≠ .refuse ∧
      ((withRequest lockedRead State.reset).classify none lockedRead).action = .refuse := by
  simp only [← State.acceptable_iff]
  decide +kernel

theorem witness_MatchingWriteClosesTheLock :
    let s := withRequest lockedWrite (withLock rest)
    s.tracker.presented = some lockedWrite ∧ Acceptable s lockedWrite ∧ s.tracker.lock = some (openLock false) ∧
      lockedWrite.malformed = none ∧ Matches (openLock false) lockedWrite := by
  simp only [← State.acceptable_iff, Matches]
  decide +kernel

theorem witness_MismatchedRequestBreaksTheLock :
    let s := withRequest plainWrite (withLock rest)
    s.tracker.presented = some plainWrite ∧ Acceptable s plainWrite ∧ s.tracker.lock = some (openLock false) ∧
      ¬Matches (openLock false) plainWrite := by
  simp only [← State.acceptable_iff, Matches]
  decide +kernel

theorem witness_DownstreamResponseIsStoredOrDiscarded :
    let waiting := entry plainRead .none none
    (rest.brst = false ∧ (withList [stalledHead, waiting] rest).tracker.inFlight = [stalledHead] ++ waiting :: [] ∧
      (∀ x ∈ [stalledHead], ¬(x.forwarded = true ∧ x.result = none)) ∧
      (waiting.forwarded = true ∧ waiting.result = none)) ∧
    (withList [waiting] rest).tracker.inFlight = [] ++ waiting :: [] ∧ (State.busReset rest).brst = true := by
  decide +kernel

theorem witness_ReadyHeadCompletesOrWaits :
    ((stalled 0).readyHead = some stalledHead ∧ ((stalled 0).judgment stalledHead).fits = false ∧
      (stalled 0).capture.policy = .stall) ∧
    (let s := withLink .running 1 none (holding 62 .stall (withList [stalledHead] rest))
     s.readyHead = some stalledHead ∧ (s.judgment stalledHead).fits = true ∧ s.link.frame = none ∧
       s.link.state = .running ∧ 0 < s.link.credit) ∧
    (let s := holding 63 .drop (withList [stalledHead] rest)
     s.readyHead = some stalledHead ∧ (s.judgment stalledHead).fits = false ∧ s.capture.policy = .drop) ∧
    (let s := withLink .running 1 none (withList [stalledHead] rest)
     s.readyHead = some stalledHead ∧ (s.judgment stalledHead).fits = true ∧ s.link.frame = none ∧
       s.link.state = .running ∧ 0 < s.link.credit ∧
       (s.capture.complete (s.judgment stalledHead) true).buffer = []) ∧
    rest.readyHead = none := by
  decide +kernel

theorem witness_StallLimitCompletesTheHeadAsShort :
    (stalled 9).readyHead = some stalledHead ∧ (stalled 9).tracker.stall = some 9 ∧ (stalled 9).capture.limit ≠ 0#16 ∧
    rest.tracker.stall = none := by
  decide +kernel

theorem witness_MatchSetHoldsTheComparatorsThatMatch :
    let c : Comparator := { clearedComparator with windowLow := 0x20040#36, windowHigh := 0x20047#36 }
    c.windowLow ≤ c.windowHigh ∧ DataSeenUpstream (entry plainWrite .none okay) 5#64 := by
  exact ⟨by decide, (Entry.dataSeen_iff _ _).mp (by decide +kernel)⟩

/-- Number 3 and number 4, ARMED or not, and an image on each side of every condition. -/
theorem witness_LoadComparatorTestsThenReplacesTheImage :
    (4 ≤ (4#8).toNat ∧ (3#8).toNat = (3 : Fin 4).val) ∧
    (∃ k r, ({ rest with sequencer := programAt 1 1#16 } : State).sequencer.state = .armed k r) ∧
    (∀ k r, rest.sequencer.state ≠ .armed k r) ∧
    (let x := argsOfComparator { clearedComparator with used := true, windowEnable := true }
     x.use = 1#8 ∧ ComparatorSound x ∧ ¬ComparatorSound { x with windowLow := 1#40 } ∧
       ¬ComparatorSound { x with windowEnable := false, windowHigh := 0x1000000000#40 } ∧
       ¬ComparatorSound { x with classes := 0#4 } ∧ { x with use := 2#8 }.use.toNat ≥ 2) := by
  refine ⟨by decide, ⟨1, 1#16, rfl⟩, fun k r h => ?_, ?_⟩
  · cases h
  · unfold ComparatorSound
    decide +kernel

/-- The last count, a count before it, and a restart. -/
theorem witness_SequencerStepsOnMatchSets :
    ((programAt 1 1#16).state = .armed 1 1#16 ∧ Satisfies 5#4 ((programAt 1 1#16).steps.get 1) ∧
      ¬Satisfies 1#4 ((programAt 1 1#16).steps.get 1)) ∧
    ((programAt 0 2#16).state = .armed 0 2#16 ∧ Satisfies 2#4 ((programAt 0 2#16).steps.get 0) ∧ 1 < (2#16).toNat) ∧
    (∃ n : Fin 4, program.restart.getLsbD n = true ∧ (8#4 : ComparatorSet).getLsbD n = true) ∧
    (((programAt 2 1#16).steps.get 2).last = true ∧ ((programAt 1 1#16).steps.get 1).last = false ∧
      (2 : Fin 4).val = (1 : Fin 4).val + 1) := by
  simp only [← ProgramStep.satisfiedBy_iff]
  decide +kernel

theorem witness_LoadStepTestsThenReplacesTheImage :
    (5 ≤ (5#8).toNat ∧ (4#8).toNat ≤ 4 ∧ (3#8).toNat = (3 : Fin 4).val) ∧
    (∃ k r, ({ rest with sequencer := programAt 1 1#16 } : State).sequencer.state = .armed k r) ∧
    (∀ k r, rest.sequencer.state ≠ .armed k r) ∧
    (let x : StepArgs := { defined := 1#8, combine := 1#2, condition := 0#4, count := 1#16, last := 1#2, actions := 0#4 }
     (x.combine.toNat ≤ 1 ∧ x.count ≠ 0#16 ∧ x.last.toNat ≤ 1) ∧ { x with count := 0#16 }.count = 0#16) := by
  refine ⟨by decide, ⟨1, 1#16, rfl⟩, fun k r h => ?_, by decide⟩
  cases h

theorem witness_ArmValidatesAndDisarmIsAlwaysTaken :
    ValidProgram program ∧ ¬ValidProgram rest.sequencer ∧ (∀ k r, program.state ≠ .armed k r) ∧
    (∃ k r, (programAt 3 1#16).state = .armed k r) := by
  refine ⟨?_, ?_, fun k r h => ?_, ⟨3, 1#16, rfl⟩⟩
  · unfold ValidProgram
    decide +kernel
  · unfold ValidProgram
    decide +kernel
  · cases h

theorem witness_SetCaptureWritesEverySetting :
    let x : CaptureArgs :=
      { mode := 2#8, filter := 0#4, readData := 1#8, writeData := 1#8, policy := 1#8, limit := 10#16 }
    (x.mode.toNat ≤ 2 ∧ x.readData.toNat ≤ 1 ∧ x.writeData.toNat ≤ 1 ∧ x.policy.toNat ≤ 1) ∧
    ¬{ x with mode := 3#8 }.mode.toNat ≤ 2 ∧
    ((stalled 10).tracker.stall = some 10 ∧ (stalled 10).readyHead = some stalledHead ∧ x.limit ≠ 0#16 ∧
      x.limit.toNat ≤ 10 ∧ ¬x.limit.toNat ≤ 9) ∧
    (((stalled 10).judgment stalledHead).fits = false ∧ rest.tracker.stall = none) := by
  decide +kernel

theorem witness_CapturedTransactionsGiveTheirRecords :
    let s := holding 1 .drop rest
    let e := entry plainWrite .none okay
    e.result = okay ∧ s.capture.mode = .always ∧ s.capture.filter = 0#4 ∧ s.capture.writeData = true ∧
      DataSeenUpstream e 5#64 ∧ rest.capture.mode = .off := by
  exact ⟨rfl, rfl, rfl, rfl, (Entry.dataSeen_iff _ _).mp (by decide +kernel), rfl⟩

/-- Each line of Table 7-3. -/
theorem witness_RecordsAreStoredOrDroppedByTheNeededCount :
    stalledHead.role = .none ∧ (entry lockedRead .openingRead okay).role = .openingRead ∧
    (withLock rest).tracker.lock ≠ none ∧ rest.tracker.lock = none ∧
    (entry lockedWrite (.closingWrite false) okay).role = .closingWrite false ∧
    ({ rest.capture with reserved := true } : Capture).reserved = true ∧ rest.capture.reserved = false ∧
    (entry lockedWrite (.closingWrite true) okay).role = .closingWrite true := by
  decide +kernel

theorem witness_FlushAndReadRemoveRecords :
    (withLink .running 0 none rest).link.state ≠ .disabled ∧ rest.link.state = .disabled ∧
    rest.capture.buffer = [] ∧
    (holding 1 .drop rest).capture.buffer = { sequence := 499#16, body := .mark 0#32 0 false } :: [] := by
  decide +kernel

theorem witness_FramesCarryRecordsWhole :
    Size.b1.isBurst = false ∧ (255#64 : Beat).toNat < 256 ^ Size.b1.beatBytes := by
  decide

theorem witness_CreditPulseCountsStartsOrOverflows :
    let s := withLink .running 7 none (holding 1 .drop rest)
    (s.link.state = .running ∧ s.link.credit < 8 ∧ s.link.frame = none ∧
      s.capture.buffer = { sequence := 499#16, body := .mark 0#32 0 false } :: []) ∧
    rest.capture.buffer = [] ∧ (withLink .running 8 none rest).link.credit = 8 ∧ rest.link.state ≠ .running := by
  decide +kernel

theorem witness_FrameEndRemovesItsRecord :
    let f : Sending := { content := [0x5C#8], position := 0 }
    let s := withLink .running 1 (some f) (holding 2 .drop rest)
    s.link.frame = some f ∧ s.link.state = .running ∧ 0 < s.link.credit ∧ s.capture.buffer ≠ [] ∧
      (withLink .fault 8 (some f) rest).link.state ≠ .running := by
  decide +kernel

theorem witness_LinkIsEnabledAndDisabled :
    let f : Sending := { content := [0x5C#8, 0x44#8], position := 1 }
    rest.link.state = .disabled ∧ (withLink .running 8 none rest).link.state = .running ∧
    (withLink .fault 8 (some f) rest).link.state = .fault ∧ (withLink .fault 8 (some f) rest).link.frame = some f ∧
    f.position < f.content.length ∧ (∃ t, exec (.linkDisable 0#4) rest = .next t ∧ FlagLaw t.flags) := by
  refine ⟨rfl, rfl, rfl, rfl, by decide, _, rfl, ?_⟩
  unfold FlagLaw
  decide +kernel

/-- The sets at the bounds: bits 0 and 13 stand for no flag, bits 1 and 12 for one. -/
theorem witness_FlagsAreClearedAndEnabled :
    (∃ n : Fin 16, (n.val = 0 ∨ 12 < n.val) ∧ (0x0001#16 : FlagSet).getLsbD n = true) ∧
    (∃ n : Fin 16, (n.val = 0 ∨ 12 < n.val) ∧ (0x2000#16 : FlagSet).getLsbD n = true) ∧
    (¬∃ n : Fin 16, (n.val = 0 ∨ 12 < n.val) ∧ (0x1002#16 : FlagSet).getLsbD n = true) ∧
    FlagLaw { events := 0x1FEC#16, enables := 0x1FFE#16 } := by
  unfold FlagLaw
  decide +kernel

theorem witness_AlertAndCauseFollowTheFlags :
    let s : State := { rest with flags := { events := 0x1008#16, enables := 0x1000#16 } }
    (s.flagSet .downstreamError = true ∧ s.flags.enables.getLsbD 12 = true) ∧ FlagLaw s.flags := by
  unfold FlagLaw
  decide +kernel

theorem witness_EveryStepKeepsTheTransactionLaws :
    TrackerLaw (stalled 3).tracker ∧ StallLaw (stalled 3) ∧ PairLaw (stalled 3) ∧ ∃ t, step (stalled 3) = .next t := by
  refine ⟨⟨by decide +kernel, by decide +kernel, by decide +kernel, fun l h => ?_⟩, fun count h => ?_,
    ⟨fun l h => ?_, fun l h => ?_, fun _ h => ?_, fun h => ?_⟩, _, rfl⟩
  · cases h
  · cases h
    exact ⟨stalledHead, rfl, by decide +kernel, rfl, .inr (by decide)⟩
  · cases h
  · cases h
  · exact absurd h (by decide +kernel)
  · exact absurd h (by decide +kernel)

theorem witness_EveryStepKeepsTheBufferAndLinkLaws :
    (∃ t, step (holding 2 .drop rest) = .next t) ∧ BufferLaw (holding 2 .drop rest).capture ∧
      LinkLaw (holding 2 .drop rest) := by
  refine ⟨⟨_, rfl⟩, ⟨by decide +kernel, ?_⟩, ⟨by decide +kernel, by decide +kernel, by decide +kernel,
    by decide +kernel, fun h => ?_, fun f h => ?_⟩⟩
  · intro i h
    have : i = 0 ∨ i = 1 := by
      have : (holding 2 .drop rest).capture.buffer.length = 2 := by decide +kernel
      omega
    rcases this with rfl | rfl <;> rfl
  · exact absurd h (by decide +kernel)
  · cases h

theorem witness_EveryStepKeepsTheViolationLaw :
    let s := listing [denied 1#32 255#8, denied 2#32 1#8] rest
    ViolationLaw s.violations ∧ ∃ t, step s = .next t := by
  refine ⟨⟨by decide +kernel, by decide +kernel, ?_, by decide +kernel⟩, _, rfl⟩
  intro i h _
  have : i = 0 := by
    have : (listing [denied 1#32 255#8, denied 2#32 1#8] rest).violations.records.length = 2 := by decide +kernel
    omega
  subst this
  rfl

theorem witness_EveryStepKeepsThePolicyLaw :
    let s := withSlot (.commitRegion 15 (image 5#4 1#30 1#30 1#8)) (withLock (committed 4 (image 4#4 0#30 0#30 1#8) rest))
    PolicyLaw s ∧ ∃ t, step s = .next t := by
  refine ⟨⟨?_, by decide +kernel, ?_⟩, _, rfl⟩
  · unfold RegionTable.admits
    decide +kernel
  · intro w slot x hw hc
    cases hw
    cases hc
    unfold RegionTable.admits
    decide +kernel

theorem witness_EveryStepKeepsTheSettingsLaws :
    let s := inLockdown { holding 1 .drop rest with sequencer := programAt 2 3#16 }
    (∃ t, step s = .next t) ∧ GuardLaw s.guardUnit ∧ SequencerLaw s.sequencer ∧ ComparatorLaw s.comparators ∧
      CaptureStateLaw s.capture ∧ FlagLaw s.flags := by
  refine ⟨⟨_, rfl⟩, ?_, ⟨by decide +kernel, by decide +kernel, fun k r h => ?_⟩, ?_, ?_, ?_⟩
  · unfold GuardLaw
    decide +kernel
  · cases h
    unfold ValidProgram
    decide +kernel
  · unfold ComparatorLaw
    decide +kernel
  · unfold CaptureStateLaw
    decide +kernel
  · unfold FlagLaw
    decide +kernel

theorem witness_LockdownLastsAndForwardsNoWrite :
    let s := inLockdown (withRequest plainWrite rest)
    s.guardUnit.lockdown = true ∧ s.guardUnit.mode = .enforce ∧ plainWrite.direction = .write ∧
      (∃ t, step s = .next t) ∧ (∀ tag, s.pending.head? ≠ some (.maintReset tag)) := by
  refine ⟨rfl, rfl, rfl, ⟨_, rfl⟩, fun tag h => ?_⟩
  cases h

end Sys2Proof.Tests
end

/-! SUPPORT and PROOFS. The violation list (chapter 4): how a violation is joined, appended or counted (R63 to R68),
how records are acknowledged (R71, R72), what a step can do to the list, and that every such change keeps its law
(R66). -/

namespace Sys2Proof.Proofs.Violations

open Sys2Proof Sys2Proof.Machine

/-! ## Joining, appending, counting -/

/-- The test for joining is likeness, with a count below 255 (R64). -/
theorem joins_iff (v newest : Violation) :
    v.joins newest = true ↔ v.alike newest ∧ newest.count.toNat < 255 := by
  simp [Violation.joins, Violation.alike, BitVec.lt_def, and_assoc]

/-- A violation is joined where it can be joined to the newest record. -/
theorem canJoin_iff (l : ViolationList) (v : Violation) :
    l.canJoin v = true ↔ ∃ older newest, l.records = older ++ [newest] ∧ v.joins newest = true := by
  unfold ViolationList.canJoin
  constructor
  · intro joins
    split at joins
    · cases joins
    · rename_i newest last
      obtain ⟨older, hl⟩ := List.getLast?_eq_some_iff.mp last
      exact ⟨older, newest, hl, joins⟩
  · rintro ⟨older, newest, hl, joins⟩
    simpa [hl] using joins

/-- Joining touches the newest record only. -/
theorem join_records {l : ViolationList} {older : List Violation} {newest : Violation}
    (hl : l.records = older ++ [newest]) (v : Violation) :
    l.join v = { l with records := older ++ [newest.joined v] } := by
  simp [ViolationList.join, hl]

/-- One more on a counter that stops at 65535. -/
theorem saturatingAdd_one (c : BitVec 16) :
    saturatingAdd c 1 = if c = 65535#16 then 65535#16 else c + 1#16 := by
  unfold saturatingAdd
  split <;> rename_i hc
  · subst hc
    rfl
  · have : c.toNat ≠ 65535 := fun h => hc (BitVec.eq_of_toNat_eq h)
    apply BitVec.eq_of_toNat_eq
    simp only [BitVec.toNat_ofNat, BitVec.toNat_add]
    omega

/-- A violation that can be joined is joined (R64). -/
theorem takeViolation_of_joins {s : State} {v newest : Violation} {older : List Violation}
    (hl : s.violations.records = older ++ [newest]) (hj : v.joins newest = true) :
    s.takeViolation v =
      State.raise { s with violations := { s.violations with records := older ++ [newest.joined v] } }
        .violation := by
  have can : s.violations.canJoin v = true := (canJoin_iff _ _).mpr ⟨older, newest, hl, hj⟩
  simp only [State.takeViolation, can, if_true, join_records hl]

/-- A violation that cannot be joined is appended where there is room (R65). -/
theorem takeViolation_of_room {s : State} {v : Violation} (hj : s.violations.canJoin v = false)
    (room : s.violations.records.length < 8) :
    s.takeViolation v =
      State.raise { s with violations := { s.violations with records := s.violations.records ++ [v] } }
        .violation := by
  simp [State.takeViolation, hj, violationCapacity, room]

/-- A violation that can be neither joined nor appended is counted, and may bring on LOCKDOWN (R67, R68). -/
theorem takeViolation_of_full {s : State} {v : Violation} (hj : s.violations.canJoin v = false)
    (full : 8 ≤ s.violations.records.length) :
    s.takeViolation v =
      State.raise
        { s with
          violations := { s.violations with overflow := saturatingAdd s.violations.overflow 1 }
          guardUnit := { s.guardUnit with
            lockdown := s.guardUnit.lockdown || (s.guardUnit.mode = .enforce && s.guardUnit.escalate) } }
        .overflow := by
  have noRoom : ¬s.violations.records.length < violationCapacity := Nat.not_lt.mpr full
  simp only [State.takeViolation, hj, noRoom, if_false, Bool.false_eq_true]
  split <;> rename_i escalates
  · obtain ⟨mode, escalate, -⟩ := escalates
    simp [State.raise, mode, escalate]
  · have same : (s.guardUnit.lockdown || (s.guardUnit.mode = .enforce && s.guardUnit.escalate)) =
        s.guardUnit.lockdown := by
      cases locked : s.guardUnit.lockdown with
      | true => rfl
      | false => simpa [locked] using escalates
    rw [same]

/-- Settles O30: the three branches of `State.takeViolation`, the first two told apart by `canJoin_iff`. -/
theorem violationsAreJoinedAppendedOrCounted : Obligations.ViolationsAreJoinedAppendedOrCounted := by
  intro s v joinable
  refine ⟨fun older newest hl hj => ?_, fun apart => ?_⟩
  · rw [takeViolation_of_joins hl ((joins_iff v newest).mpr hj)]
    rfl
  · have cannot : s.violations.canJoin v = false := by
      rw [Bool.eq_false_iff, Ne, canJoin_iff]
      rintro ⟨older, newest, hl, hj⟩
      exact apart older newest hl ((joins_iff v newest).mp hj)
    refine ⟨fun room => ?_, fun full => ?_⟩
    · rw [takeViolation_of_room cannot room]
      rfl
    · rw [takeViolation_of_full cannot full, saturatingAdd_one]
      rfl

/-! ## Acknowledgement -/

/-- The oldest records go, and the overflow counter with the last of them (R71, R72). -/
theorem acknowledge_of_append {l : ViolationList} {removed left : List Violation} {n : Nat}
    (hl : l.records = removed ++ left) (hn : removed.length = n) :
    l.acknowledge n = { records := left, overflow := if left = [] then 0#16 else l.overflow } := by
  simp [ViolationList.acknowledge, hl, ← hn]

/-- Settles O31: the three branches of `execAckViolation`. -/
theorem ackViolationRemovesTheOldestRecords : Obligations.AckViolationRemovesTheOldestRecords := by
  intro tag count s
  have run : exec (.ackViolation tag count) s = execAckViolation tag count s := rfl
  rw [run]
  refine ⟨fun bad => ?_, fun low high => ⟨fun short => ?_, fun removed left hl hn => ?_⟩⟩
  · have outside : count.toNat = 0 ∨ 8 < count.toNat := bad.imp_left fun zero => by simp [zero]
    simp only [execAckViolation, outside, if_true]
    rfl
  · have inside : ¬(count.toNat = 0 ∨ 8 < count.toNat) := by omega
    simp only [execAckViolation, inside, short, if_true, if_false]
    rfl
  · have inside : ¬(count.toNat = 0 ∨ 8 < count.toNat) := by omega
    have enough : ¬s.violations.records.length < count.toNat := by simp [hl, hn]
    simp only [execAckViolation, inside, enough, if_false, acknowledge_of_append hl hn]
    rfl

/-! ## What a step can do to the list -/

/-- What one happening can make of a violation list: it stays, it is cleared, its oldest records are acknowledged, or
it takes one violation, a record of count 1 whose matched field is not NONE (R62). -/
inductive Change (l : ViolationList) : ViolationList → Prop
  | kept : Change l l
  | cleared : Change l resetViolations
  | acknowledged (n : Nat) : Change l (l.acknowledge n)
  | taken (s : State) (v : Violation) (list : s.violations = l) (once : v.count = 1#8) (matched : v.matched ≠ .none) :
    Change l (s.takeViolation v).violations

/-- A list that stays as it is has changed in the first way. -/
theorem Change.of_eq {l l' : ViolationList} (h : l' = l) : Change l l' :=
  h ▸ .kept

/-- The deciding record's matched field is a slot or DEFAULT (R25, R27). -/
theorem decidingRecord_matched (t : RegionTable) (r : Request) : (t.decidingRecord r).1 ≠ .none := by
  unfold RegionTable.decidingRecord
  split <;> simp

/-- A verdict with a reason comes from the table: its matched field is not NONE (R44, R45, R12). -/
theorem verdictFor_matched {s : State} {closes : Option Lock} {malformed : Option Reason} {r : Request}
    {reason : Reason} (h : (s.verdictFor closes malformed r).reason = some reason) :
    (s.verdictFor closes malformed r).matched ≠ .none := by
  have classified : (s.classify malformed r).reason = some reason → (s.classify malformed r).matched ≠ .none := by
    unfold State.classify
    cases s.guardUnit.mode with
    | bypass => simp [bypassVerdict]
    | monitor | enforce => exact fun _ => decidingRecord_matched s.table r
  cases closes with
  | none => exact classified h
  | some l =>
    simp only [State.verdictFor] at h ⊢
    split at h <;> rename_i absorbed
    · simp [Lock.absorbedVerdict] at h
    · rw [if_neg absorbed]
      exact classified h

/-- The guard hands on at most one violation of a verdict (R53). -/
theorem handOn_change (s : State) (ordinal : Ordinal) (r : Request) {v : Verdict}
    (matched : ∀ reason, v.reason = some reason → v.matched ≠ .none) :
    Change s.violations (s.handOn ordinal r v).violations := by
  unfold State.handOn
  split
  · exact .kept
  · rename_i reason hv
    split
    · exact .taken s (violationOf ordinal r v reason) rfl rfl (matched reason hv)
    · exact .kept

/-- An acceptance changes the list by what the guard hands on, and by nothing else (R8). -/
theorem accept_change (s : State) (r : Request) : Change s.violations (s.accept r).violations := by
  have handed : ∀ (u : State) closes malformed, u.violations = s.violations →
      Change s.violations (u.handOn s.tracker.ordinal r (u.verdictFor closes malformed r)).violations :=
    fun u _ _ same => same ▸ handOn_change u s.tracker.ordinal r fun _ => verdictFor_matched
  unfold State.accept
  dsimp only
  split
  · simp only [State.judgeNewHead_violations, State.settleLock_violations]
    exact handed _ _ _ (by split <;> simp)
  · simp only [State.settleLock_violations]
    exact handed _ _ _ (by split <;> simp)

/-- The presented request's acceptance, or nothing. -/
theorem acceptPresented_change (s : State) : Change s.violations s.acceptPresented.violations := by
  obtain same | ⟨r, -, -, accepted⟩ := s.acceptPresented_cases
  · exact .of_eq (congrArg State.violations same)
  · exact accepted ▸ accept_change s r

/-- A policy command leaves the list as it is. -/
theorem takePolicy_violations (s : State) (code : Code) (tag : Tag) (tested : Except RefusalReason PolicyCommand) :
    (s.takePolicy code tag tested).violations = s.violations := by
  cases hs : s.port.slot with
  | some w => simp [State.takePolicy_busy hs]
  | none =>
    cases tested with
    | error reason => simp [State.takePolicy_error hs]
    | ok c =>
      cases hl : s.tracker.lock with
      | none => simp [State.takePolicy_installs hs hl]
      | some l => simp [State.takePolicy_waits hs hl]

/-- A bus reset leaves the list as it is. -/
theorem busReset_violations (s : State) : s.busReset.violations = s.violations := by
  unfold State.busReset
  dsimp only
  split <;> simp

/-- MAINT_RESET clears the list (R74, R181). -/
theorem maintReset_violations (s : State) : s.maintReset.violations = resetViolations := by
  unfold State.maintReset
  dsimp only
  split
  · rw [State.judgeHead_violations]
    rfl
  · rfl

/-- A microsecond leaves the list as it is. -/
theorem tick_violations (s : State) : s.tick.violations = s.violations := by
  unfold State.tick
  dsimp only
  split
  · simp
  · split <;> simp

/-- What the part does of its own on an empty queue. -/
theorem idle_change (s : State) : Change s.violations s.idle.violations := by
  unfold State.idle
  split
  · exact .of_eq s.judgeHead_violations
  · split
    · exact acceptPresented_change s
    · exact .of_eq (tick_violations s)

/-- The commands that can change the violation list: those that accept a request, ACK_VIOLATION and the two resets. -/
def reachesViolations : Instr → Bool
  | .presentedRequest _ | .acceptance | .brstRelease | .ackViolation _ _ | .maintReset _ | .powerOnReset _ => true
  | _ => false

/-- Every other command leaves the list as it is. -/
theorem exec_keeps_violations {i : Instr} (other : reachesViolations i = false) {s t : State}
    (h : exec i s = .next t) : t.violations = s.violations := by
  cases i with
  | presentedRequest | acceptance | brstRelease | ackViolation | maintReset | powerOnReset => cases other
  | completion | busReset | null | readGuard | queryPending | readSequencer | disarm | readCapture | flushTrace
  | linkDisable | readFlags =>
    cases h
    simp [busReset_violations]
  | commitRegion | retireRegion | setDefault | setMode =>
    cases h
    simp [takePolicy_violations]
  | downstreamResponse | stallLimitRunsOut | creditPulse | frameEnd | badFrame =>
    simp only [exec, execDownstreamResponse, execStallLimitRunsOut, execCreditPulse, execFrameEnd, execBadFrame] at h
    (repeat' split at h) <;> cases h <;> simp
  | stageRegion | readRegion | abortPending | readViolation | loadComparator | readComparator | loadStep | arm =>
    simp only [exec, execStageRegion, execReadRegion, execAbortPending, execReadViolation, execLoadComparator,
      execReadComparator, execLoadStep, execArm] at h
    (repeat' split at h) <;> cases h <;> simp
  | setCapture | readTrace | linkEnable | clearFlags | setAlertEnable =>
    simp only [exec, execSetCapture, execReadTrace, execLinkEnable, linkEnabled, execClearFlags,
      execSetAlertEnable] at h
    (repeat' split at h) <;> cases h <;> simp

/-- What a command can do to the list. -/
theorem exec_change {i : Instr} {s t : State} (h : exec i s = .next t) : Change s.violations t.violations := by
  by_cases reaches : reachesViolations i = false
  · exact .of_eq (exec_keeps_violations reaches h)
  cases i with
  | presentedRequest r =>
    simp only [exec, execPresentedRequest] at h
    split at h <;> cases h
    · exact .kept
    · exact acceptPresented_change { s with tracker := { s.tracker with presented := some r } }
  | acceptance =>
    cases h
    exact acceptPresented_change s
  | brstRelease =>
    simp only [exec, execBrstRelease] at h
    split at h <;> cases h
    · exact acceptPresented_change { s with brst := false }
    · exact .kept
  | ackViolation tag count =>
    simp only [exec, execAckViolation] at h
    split at h
    · cases h
      exact .kept
    · split at h <;> cases h
      · exact .kept
      · exact .acknowledged count.toNat
  | maintReset tag =>
    cases h
    simpa [maintReset_violations] using Change.cleared
  | powerOnReset gstrap =>
    cases h
    exact .cleared
  | _ => exact absurd rfl reaches

/-- What a step can do to the list. -/
theorem step_change {s t : State} (h : step s = .next t) : Change s.violations t.violations := by
  unfold step at h
  split at h
  · cases h
    exact idle_change s
  · rename_i c rest _
    exact exec_change (s := { s with pending := rest }) h

/-! ## The law -/

/-- A record may be followed by another: the two are not alike, or the first one's count is 255 (R66). -/
def MayPrecede (a b : Violation) : Prop :=
  b.alike a → a.count = 255#8

/-- The law, its clause on neighbours read as a chain. -/
theorem violationLaw_iff (l : ViolationList) :
    ViolationLaw l ↔
      l.records.length ≤ 8 ∧ (∀ v ∈ l.records, v.count ≠ 0#8 ∧ v.matched ≠ .none) ∧
        l.records.IsChain MayPrecede ∧ (l.records = [] → l.overflow = 0#16) := by
  rw [List.isChain_iff_getElem]
  rfl

/-- The cleared list meets the law. -/
theorem violationLaw_reset : ViolationLaw resetViolations := by
  simp [violationLaw_iff, resetViolations]

/-- Acknowledging keeps the law: what is left is an end part of the list (R72). -/
theorem violationLaw_acknowledge {l : ViolationList} (law : ViolationLaw l) (n : Nat) :
    ViolationLaw (l.acknowledge n) := by
  obtain ⟨size, sound, chain, -⟩ := (violationLaw_iff l).mp law
  refine (violationLaw_iff _).mpr ⟨?_, fun v hv => sound v (List.mem_of_mem_drop hv), chain.drop n, fun none => ?_⟩
  · simp only [ViolationList.acknowledge, List.length_drop]
    omega
  · exact if_pos (List.isEmpty_iff.mpr none)

/-- Joining keeps the law: the newest record stays alike to what it was, and its count, below 255, goes up by 1. -/
theorem violationLaw_join {l : ViolationList} (law : ViolationLaw l) {older : List Violation}
    {newest v : Violation} (hl : l.records = older ++ [newest]) (below : newest.count.toNat < 255) :
    ViolationLaw { l with records := older ++ [newest.joined v] } := by
  obtain ⟨size, sound, chain, -⟩ := (violationLaw_iff l).mp law
  rw [hl] at size sound chain
  obtain ⟨chainOlder, -, link⟩ := List.isChain_append.mp chain
  have counted : newest.count + 1#8 ≠ 0#8 := by bv_omega
  refine (violationLaw_iff _).mpr ⟨by simpa using size, fun w hw => ?_, ?_, by simp⟩
  · obtain old | new := List.mem_append.mp hw
    · exact sound w (List.mem_append_left _ old)
    · obtain rfl := List.mem_singleton.mp new
      exact ⟨counted, (sound newest (by simp)).2⟩
  · refine chainOlder.append (.singleton _) fun a ha b hb => ?_
    cases hb
    exact link a ha newest rfl

/-- Appending keeps the law, where there is room and the newest record could not take the violation (R65). -/
theorem violationLaw_append {l : ViolationList} (law : ViolationLaw l) {v : Violation} (once : v.count = 1#8)
    (matched : v.matched ≠ .none) (room : l.records.length < 8) (apart : l.canJoin v = false) :
    ViolationLaw { l with records := l.records ++ [v] } := by
  obtain ⟨-, sound, chain, -⟩ := (violationLaw_iff l).mp law
  refine (violationLaw_iff _).mpr ⟨by simpa using room, fun w hw => ?_, ?_, by simp⟩
  · obtain old | new := List.mem_append.mp hw
    · exact sound w old
    · obtain rfl := List.mem_singleton.mp new
      exact ⟨by simp [once], matched⟩
  · refine chain.append (.singleton _) fun newest hn b hb alike => ?_
    cases hb
    have full : ¬newest.count.toNat < 255 := fun below => by
      have joins := (joins_iff v newest).mpr ⟨alike, below⟩
      simp [ViolationList.canJoin, Option.mem_def.mp hn, joins] at apart
    bv_omega

/-- Taking a violation keeps the law (R64 to R67). -/
theorem violationLaw_takeViolation {s : State} (law : ViolationLaw s.violations) {v : Violation}
    (once : v.count = 1#8) (matched : v.matched ≠ .none) : ViolationLaw (s.takeViolation v).violations := by
  cases can : s.violations.canJoin v with
  | true =>
    obtain ⟨older, newest, hl, joins⟩ := (canJoin_iff _ _).mp can
    rw [takeViolation_of_joins hl joins]
    exact violationLaw_join law hl ((joins_iff v newest).mp joins).2
  | false =>
    obtain room | full := Nat.lt_or_ge s.violations.records.length 8
    · rw [takeViolation_of_room can room]
      exact violationLaw_append law once matched room can
    · rw [takeViolation_of_full can full]
      obtain ⟨size, sound, neighbours, -⟩ := law
      refine ⟨size, sound, neighbours, fun (empty : s.violations.records = []) => ?_⟩
      simp [empty] at full

/-- Every change keeps the law. -/
theorem Change.keeps_violationLaw {l l' : ViolationList} (change : Change l l') (law : ViolationLaw l) :
    ViolationLaw l' := by
  cases change with
  | kept => exact law
  | cleared => exact violationLaw_reset
  | acknowledged n => exact violationLaw_acknowledge law n
  | taken s v list once matched => exact violationLaw_takeViolation (list ▸ law) once matched

/-- Settles O57: a step can do nothing to the list but what `Change` names, and each such change keeps the law. -/
theorem everyStepKeepsTheViolationLaw : Obligations.EveryStepKeepsTheViolationLaw :=
  fun _ _ law h => (step_change h).keeps_violationLaw law

end Sys2Proof.Proofs.Violations

/-! SUPPORT and PROOFS. The trigger sequencer (chapter 6): how it steps on a match set (R97 to R100), how a step is
loaded (R92), how a program is armed and disarmed (R94 to R96); and the reads of whole blocks (R105, R130, R159, R178,
R184). -/

namespace Sys2Proof.Proofs.TriggerSequencer

open Sys2Proof Sys2Proof.Machine

/-! ## The shape of the sequencer's state -/

/-- A sequencer in no armed state is not ARMED. -/
theorem isArmed_eq_false {q : Sequencer} (idle : ∀ k r, q.state ≠ .armed k r) : q.isArmed = false :=
  Bool.eq_false_iff.mpr fun armed =>
    let ⟨k, r, at_k⟩ := q.isArmed_iff.mp armed
    idle k r at_k

/-- Outside a stall wait a judgment changes nothing; in one it is the judgment of a COMPLETION (R17, R122). -/
theorem next_rejudge (t : State) :
    (.next t.rejudge : Host.Outcome State Fault Refusal) =
      if t.tracker.stall = none then .next t else exec .completion t := by
  cases waits : t.tracker.stall with
  | none => simp [State.rejudge_none waits]
  | some n =>
    rw [State.rejudge_some waits]
    rfl

/-! ## Stepping on a match set (R97 to R100) -/

section
variable {q : Sequencer} {k : Fin 4} {r : BitVec 16} {m : ComparatorSet}

/-- A match of the restart set, the sequencer past S0 (R98). -/
theorem step_restarts (armed : q.state = .armed k r) (past : k ≠ 0) (restarts : q.restartedBy m = true) :
    q.step m = (q.counting 0, .restart) := by
  simp [Sequencer.step, armed, past, restarts]

/-- No restart, and the step is not satisfied (R99). -/
theorem step_waits (armed : q.state = .armed k r) (stays : ¬(k ≠ 0 ∧ q.restartedBy m = true))
    (unmet : ¬Satisfies m (q.steps.get k)) : q.step m = (.armed k r, .none) := by
  rw [← ProgramStep.satisfiedBy_iff] at unmet
  simp only [Sequencer.step, armed, if_neg stays, if_neg unmet]

/-- No restart, and the step is satisfied before its last count (R99). -/
theorem step_counts (armed : q.state = .armed k r) (stays : ¬(k ≠ 0 ∧ q.restartedBy m = true))
    (met : Satisfies m (q.steps.get k)) (more : 1 < r.toNat) : q.step m = (.armed k (r - 1#16), .counted) := by
  rw [← ProgramStep.satisfiedBy_iff] at met
  simp only [Sequencer.step, armed, if_neg stays, met, if_true, if_pos more]

/-- No restart, and the step is satisfied on its last count: it fires (R99, R100). -/
theorem step_fires (armed : q.state = .armed k 1#16) (stays : ¬(k ≠ 0 ∧ q.restartedBy m = true))
    (met : Satisfies m (q.steps.get k)) :
    q.step m =
      (if (q.steps.get k).last then .done else q.counting (k + 1),
        .fired k (q.steps.get k).actions (q.steps.get k).last) := by
  rw [← ProgramStep.satisfiedBy_iff] at met
  have lastCount : ¬1 < (1#16).toNat := by decide
  simp only [Sequencer.step, armed, if_neg stays, met, if_true, if_neg lastCount]

end

/-- Settles O42: one lemma per row of R98 to R100. -/
theorem sequencerStepsOnMatchSets : Obligations.SequencerStepsOnMatchSets := by
  intro q m
  refine ⟨fun idle => Sequencer.step_not_armed (isArmed_eq_false idle) m, fun k r armed => ?_⟩
  simp only [← inter_ne_zero_iff]
  refine ⟨fun ⟨past, restarts⟩ => step_restarts armed past restarts, fun stays =>
    ⟨step_waits armed stays, step_counts armed stays, fun met one final => ?_, fun met one more next succ => ?_⟩⟩
  · subst one
    simp [step_fires armed stays met, final]
  · subst one
    have next_eq : k + 1 = next := Fin.ext (by omega)
    simp [step_fires armed stays met, more, next_eq, Sequencer.counting]

/-! ## Loading a step (R92) -/

/-- A byte that is the number of a step names it. -/
theorem fourOfByte_eq_some {b : BitVec 8} {k : Fin 4} (h : b.toNat = k.val) : fourOfByte b = some k := by
  simp [fourOfByte, h]

/-- A combine code is refused exactly above 1 (Table 11-1). -/
theorem combineOfCode_eq_none_iff (c : BitVec 2) : combineOfCode c = none ↔ ¬c.toNat ≤ 1 := by
  revert c
  decide

/-- The code of a combine value that a code stands for is that code. -/
theorem codeOfCombine_combineOfCode {c : BitVec 2} {v : Combine} (h : combineOfCode c = some v) :
    codeOfCombine v = c := by
  revert c
  cases v <;> decide

/-- A final code is refused exactly above 1 (Table 11-1). -/
theorem finalOfCode_eq_none_iff (c : BitVec 2) : finalOfCode c = none ↔ ¬c.toNat ≤ 1 := by
  revert c
  decide

/-- The code of a final value that a code stands for is that code. -/
theorem codeOfFinal_finalOfCode {c : BitVec 2} {v : Bool} (h : finalOfCode c = some v) :
    (if v then 1 else 0) = c := by
  revert c
  cases v <;> decide

/-- The action bits survive being loaded and read (Table 11-5). -/
theorem bitsOfActions_actionsOfBits (b : BitVec 4) : bitsOfActions (actionsOfBits b) = b := by
  revert b
  decide

/-- The tests of R92 on the fields of a DEFINED image: combine, count and final in range. -/
def StepSound (x : StepArgs) : Prop :=
  x.combine.toNat ≤ 1 ∧ x.count ≠ 0#16 ∧ x.last.toNat ≤ 1

section
variable {cleared : ProgramStep} {x : StepArgs}

/-- An UNDEFINED image loads the cleared step image, whatever its other fields are. -/
theorem stepOfArgs_undefined (undefined : x.defined = 0#8) : stepOfArgs cleared x = some cleared :=
  if_pos undefined

/-- A defined byte above 1 is refused. -/
theorem stepOfArgs_outOfRange (high : 2 ≤ x.defined.toNat) : stepOfArgs cleared x = none := by
  have not_zero : x.defined ≠ 0 := fun h => by simp [h] at high
  have not_one : x.defined ≠ 1 := fun h => by simp [h] at high
  simp only [stepOfArgs, if_neg not_zero, if_neg not_one]

/-- A DEFINED image that passes the tests loads the step that reads back as the image. -/
theorem stepOfArgs_sound (defined : x.defined = 1#8) (sound : StepSound x) :
    ∃ y, stepOfArgs cleared x = some y ∧ argsOfStep y = x := by
  obtain ⟨combineLe, countNe, lastLe⟩ := sound
  obtain ⟨combine, hcombine⟩ : ∃ v, combineOfCode x.combine = some v :=
    Option.ne_none_iff_exists'.mp fun h => (combineOfCode_eq_none_iff _).mp h combineLe
  obtain ⟨last, hlast⟩ : ∃ v, finalOfCode x.last = some v :=
    Option.ne_none_iff_exists'.mp fun h => (finalOfCode_eq_none_iff _).mp h lastLe
  refine ⟨{ defined := true, condition := x.condition, combine, count := x.count
            actions := actionsOfBits x.actions, last }, ?_, ?_⟩
  · simpa [stepOfArgs, defined, hcombine, hlast] using countNe
  · have hdefined : codeOfYesNo true = x.defined := defined.symm
    simp only [argsOfStep, hdefined, codeOfCombine_combineOfCode hcombine, codeOfFinal_finalOfCode hlast,
      bitsOfActions_actionsOfBits]

/-- A DEFINED image that fails a test is refused. -/
theorem stepOfArgs_unsound (defined : x.defined = 1#8) (unsound : ¬StepSound x) : stepOfArgs cleared x = none := by
  cases hcombine : combineOfCode x.combine with
  | none => simp [stepOfArgs, defined, hcombine]
  | some combine =>
    cases hlast : finalOfCode x.last with
    | none => simp [stepOfArgs, defined, hcombine, hlast]
    | some last =>
      have combineLe : x.combine.toNat ≤ 1 := by
        by_contra high
        simp [(combineOfCode_eq_none_iff _).mpr high] at hcombine
      have lastLe : x.last.toNat ≤ 1 := by
        by_contra high
        simp [(finalOfCode_eq_none_iff _).mpr high] at hlast
      have countZero : x.count = 0#16 := by
        by_contra nonzero
        exact unsound ⟨combineLe, nonzero, lastLe⟩
      simp [stepOfArgs, defined, hcombine, hlast, countZero]

end

section
variable {tag : Tag} {number : BitVec 8} {image : StepArgs} {s : State} {k : Fin 4}

/-- LOAD_STEP is dispatched to its meaning. -/
theorem exec_loadStep : exec (.loadStep tag number image) s = execLoadStep tag number image s :=
  rfl

/-- LOAD_STEP of a step number with an image that is refused. -/
theorem loadStep_refuses (idle : s.sequencer.isArmed = false) (hk : number.toNat = k.val)
    (refused : stepOfArgs clearedStep image = none) :
    exec (.loadStep tag number image) s = .next (s.responded 9 .refused tag 0x51#8 [0x0D#8]) := by
  have low : ¬4 < number.toNat := by omega
  simp only [exec_loadStep, execLoadStep, if_neg low, idle, fourOfByte_eq_some hk, refused]
  rfl

/-- LOAD_STEP of a step number with an image that loads a step: the step alone is replaced. -/
theorem loadStep_loads {x : ProgramStep} (idle : s.sequencer.isArmed = false) (hk : number.toNat = k.val)
    (loaded : stepOfArgs clearedStep image = some x) :
    exec (.loadStep tag number image) s =
      .next
        (State.responded
          { s with sequencer := { s.sequencer with steps := s.sequencer.steps.set k.val x k.isLt } }
          9 .ok tag 0x51#8 []) := by
  have low : ¬4 < number.toNat := by omega
  simp only [exec_loadStep, execLoadStep, if_neg low, idle, fourOfByte_eq_some hk, loaded]
  rfl

end

/-- Settles O43: the tests of `execLoadStep` in their order, then what the image loads. -/
theorem loadStepTestsThenReplacesTheImage : Obligations.LoadStepTestsThenReplacesTheImage := by
  intro tag number image s
  refine ⟨fun high => ?_, fun low armed => ?_, fun idle => ⟨fun four => ?_, fun k hk => ?_⟩⟩
  · have above : 4 < number.toNat := high
    simp only [exec_loadStep, execLoadStep, if_pos above]
    rfl
  · have notAbove : ¬4 < number.toNat := by omega
    simp only [exec_loadStep, execLoadStep, if_neg notAbove, (Sequencer.isArmed_iff _).mpr armed, if_true]
    rfl
  · subst four
    simp only [exec_loadStep, execLoadStep, isArmed_eq_false idle]
    rfl
  · have notArmed := isArmed_eq_false idle
    refine ⟨fun undefined => loadStep_loads notArmed hk (stepOfArgs_undefined undefined), fun defined sound => ?_,
      fun defined unsound => loadStep_refuses notArmed hk (stepOfArgs_unsound defined unsound),
      fun high => loadStep_refuses notArmed hk (stepOfArgs_outOfRange high)⟩
    obtain ⟨x, loaded, reads⟩ := stepOfArgs_sound (cleared := clearedStep) defined sound
    exact ⟨x, reads, loadStep_loads notArmed hk loaded⟩

/-! ## Valid programs (R94) -/

/-- The conditions of R94 on a single step, apart from the place of the final one. -/
theorem sound_iff (x : ProgramStep) :
    x.sound = true ↔ x.condition ≠ 0#4 ∧ ¬(x.actions.captureOn = true ∧ x.actions.captureOff = true) := by
  simp [ProgramStep.sound, imp_iff_not_or]

/-- The conditions of R94 on a program of any length of at least one step. -/
def ValidSteps {n : Nat} (f : Fin (n + 1) → ProgramStep) : Prop :=
  (f 0).defined = true ∧
  (∀ j k, j < k → (f k).defined = true → (f j).defined = true) ∧
  (∀ k, (f k).defined = true → (f k).sound = true ∧ ((f k).last = true ↔ ∀ j, k < j → (f j).defined = false))

/-- The conditions of R94, as the statements say them, are those on the four steps. -/
theorem validProgram_iff_validSteps (q : Sequencer) : ValidProgram q ↔ ValidSteps q.steps.get := by
  simp only [ValidProgram, ValidSteps, sound_iff, and_assoc]

/-- A program of one step is valid if the step is DEFINED, sound and final. -/
theorem validSteps_one (f : Fin 1 → ProgramStep) :
    ValidSteps f ↔ (f 0).defined = true ∧ (f 0).sound = true ∧ (f 0).last = true := by
  unfold ValidSteps
  simp +contextual [Fin.forall_fin_one]

/-- A program's first step is DEFINED and sound; it is final exactly if no later step is DEFINED, and otherwise the
later steps are a valid program. -/
theorem validSteps_succ {n : Nat} (f : Fin (n + 2) → ProgramStep) :
    ValidSteps f ↔
      (f 0).defined = true ∧ (f 0).sound = true ∧ ((f 0).last = true ↔ ∀ j : Fin (n + 1), (f j.succ).defined = false) ∧
        ((∃ j : Fin (n + 1), (f j.succ).defined = true) → ValidSteps fun j => f j.succ) := by
  constructor
  · rintro ⟨first, compact, each⟩
    obtain ⟨sound, final⟩ := each 0 first
    refine ⟨first, sound, ?_, fun ⟨j, defined⟩ => ⟨?_, fun i k lt => compact _ _ (Fin.succ_lt_succ_iff.mpr lt), ?_⟩⟩
    · simpa [Fin.forall_fin_succ] using final
    · obtain rfl | later := (Fin.zero_le j).eq_or_lt
      · exact defined
      · exact compact _ _ (Fin.succ_lt_succ_iff.mpr later) defined
    · intro k defined
      simpa [Fin.forall_fin_succ (n := n + 1)] using each k.succ defined
  · rintro ⟨first, sound, final, rest⟩
    refine ⟨first, fun j k => ?_, fun k => ?_⟩
    · cases j using Fin.cases with
      | zero => exact fun _ _ => first
      | succ j =>
        cases k using Fin.cases with
        | zero => exact fun lt => absurd lt (Fin.not_lt_zero _)
        | succ k =>
          intro lt defined
          obtain ⟨-, compact, -⟩ := rest ⟨k, defined⟩
          exact compact j k (Fin.succ_lt_succ_iff.mp lt) defined
    · cases k using Fin.cases with
      | zero => exact fun _ => ⟨sound, by simpa [Fin.forall_fin_succ (n := n + 1)] using final⟩
      | succ k =>
        intro defined
        obtain ⟨-, -, each⟩ := rest ⟨k, defined⟩
        simpa [Fin.forall_fin_succ (n := n + 1)] using each k defined

/-- The model's test of a program, one step at a time. -/
theorem validProgram_cons_iff (x : ProgramStep) (rest : List ProgramStep) :
    validProgram (x :: rest) = true ↔
      x.defined = true ∧ x.sound = true ∧ (x.last = true ↔ ∀ y ∈ rest, y.defined = false) ∧
        ((∃ y ∈ rest, y.defined = true) → validProgram rest = true) := by
  rw [validProgram]
  by_cases later : ∃ y ∈ rest, y.defined = true
  · have notAll : ¬∀ y ∈ rest, y.defined = false := by simpa using later
    simp only [List.any_eq_true.mpr later, if_true, later, notAll]
    simp [and_assoc]
  · have all : ∀ y ∈ rest, y.defined = false := by simpa using later
    have none : rest.any (·.defined) = false := by simpa using all
    simp only [none, later, iff_true_intro all]
    simp [and_assoc]

/-- The model's test of a program is the conditions of R94. -/
theorem validProgram_ofFn {n : Nat} (f : Fin (n + 1) → ProgramStep) :
    validProgram (List.ofFn f) = true ↔ ValidSteps f := by
  induction n with
  | zero => simp [validProgram, validSteps_one, and_assoc]
  | succ n ih =>
    rw [validSteps_succ, ← ih, List.ofFn_succ, validProgram_cons_iff]
    simp only [List.mem_ofFn, exists_exists_eq_and, forall_exists_index, forall_apply_eq_imp_iff]

/-- The four steps of a program, S0 first. -/
theorem toList_steps (steps : Vector ProgramStep 4) :
    steps.toList = [steps.get 0, steps.get 1, steps.get 2, steps.get 3] := by
  obtain ⟨⟨l⟩, size⟩ := steps
  match l, size with
  | [_, _, _, _], _ => rfl

/-- The model's test of the sequencer's program, as the statements say it (R94). -/
theorem valid_iff (q : Sequencer) : q.valid = true ↔ ValidProgram q := by
  have steps : q.steps.toList = List.ofFn q.steps.get := toList_steps q.steps
  rw [Sequencer.valid, steps, validProgram_ofFn, validProgram_iff_validSteps]

/-! ## ARM and DISARM (R94 to R96) -/

/-- ARM is dispatched to its meaning. -/
theorem exec_arm (tag : Tag) (s : State) : exec (.arm tag) s = execArm tag s :=
  rfl

/-- ARM with a valid program: the state is ARMED(0, count of S0), in mode SEQUENCED the capture state is off, and a
head in a stall wait is judged again (R95). -/
theorem arm_arms {tag : Tag} {s : State} (idle : s.sequencer.isArmed = false) (valid : s.sequencer.valid = true) :
    exec (.arm tag) s =
      .next
        (State.responded
          { s with
            sequencer := { s.sequencer with state := .armed 0 (s.sequencer.steps.get 0).count }
            capture := { s.capture with on := if s.capture.mode = .sequenced then false else s.capture.on } }
          3 .ok tag 0x52#8 []).rejudge := by
  simp only [exec_arm, execArm, idle, valid, State.takeFrame_capture]
  cases s.capture.mode <;> rfl

/-- Settles O44: the three branches of `execArm`, and DISARM. -/
theorem armValidatesAndDisarmIsAlwaysTaken : Obligations.ArmValidatesAndDisarmIsAlwaysTaken := by
  intro tag s
  refine ⟨fun armed => ?_, fun idle => ⟨fun invalid => ?_, fun valid => ?_⟩, ?_⟩
  · simp only [exec_arm, execArm, (Sequencer.isArmed_iff _).mpr armed, if_true]
    rfl
  · have notValid : s.sequencer.valid = false := Bool.eq_false_iff.mpr fun h => invalid ((valid_iff _).mp h)
    simp only [exec_arm, execArm, isArmed_eq_false idle, notValid]
    rfl
  · exact (arm_arms (isArmed_eq_false idle) ((valid_iff _).mpr valid)).trans (next_rejudge _)
  · exact next_rejudge _

/-! ## The reads of whole blocks -/

/-- The lock state byte: bit 7 and the two low bits add up, for they do not meet (Table 11-1). -/
theorem lockByte_some (l : Lock) :
    lockByte (some l) = (if l.traceDropped then 0x80#8 else 0x00#8) + if l.absorbed then 0x02#8 else 0x01#8 := by
  simp only [lockByte]
  cases l.traceDropped <;> cases l.absorbed <;> rfl

/-- READ_SEQUENCER returns the images of S0 to S3 in order (Table 6-4). -/
theorem flatMap_steps (steps : Vector ProgramStep 4) (g : ProgramStep → List Byte) :
    steps.toList.flatMap g = g (steps.get 0) ++ g (steps.get 1) ++ g (steps.get 2) ++ g (steps.get 3) := by
  simp [toList_steps]

/-- Settles O21: each read answers with its block's result, whose bytes are those of Table 11-7. -/
theorem readsOfWholeBlocksReportAndChangeNothing : Obligations.ReadsOfWholeBlocksReportAndChangeNothing := by
  intro tag s
  have guardRun : exec (.readGuard tag) s = .next (s.responded 3 .ok tag 0x22#8 s.guardResult) := rfl
  have pendingRun : exec (.queryPending tag) s = .next (s.responded 3 .ok tag 0x23#8 s.port.pendingResult) := rfl
  have sequencerRun : exec (.readSequencer tag) s = .next (s.responded 3 .ok tag 0x54#8 s.sequencer.result) := rfl
  have captureRun : exec (.readCapture tag) s = .next (s.responded 3 .ok tag 0x62#8 s.capture.result) := rfl
  refine ⟨?_, ?_, ?_, ?_, rfl⟩
  · rw [guardRun, State.guardResult]
    cases s.tracker.lock with
    | none => rfl
    | some l => rw [lockByte_some]; rfl
  · rw [pendingRun, Port.pendingResult]
    cases s.port.slot <;> rfl
  · rw [sequencerRun, Sequencer.result, flatMap_steps]
    cases s.sequencer.state <;> simp only [List.append_assoc]
  · rw [captureRun, Capture.result, Capture.reservedCount]
    cases s.capture.reserved <;> rfl

end Sys2Proof.Proofs.TriggerSequencer

/-! SUPPORT and PROOFS. The event flag unit (chapter 9): which bit says that a flag is set (R150, R151), which flag sets
name no flag (R154, R156), the lowest set and enabled flag (R158), and ALERT (R157). -/

namespace Sys2Proof.Proofs.EventFlags

open Sys2Proof Sys2Proof.Machine

/-! ## Flag sets and numbers -/

/-- The flags are numbered 1 to 12 (Table 9-1). -/
theorem number_bounds (f : Flag) : 1 ≤ f.number ∧ f.number ≤ 12 := by
  cases f <;> decide

/-- A flag's number is a bit of a flag set. -/
theorem number_lt (f : Flag) : f.number < 16 :=
  Nat.lt_of_le_of_lt (number_bounds f).2 (by decide)

/-- Every number from 1 to 12 is a flag's (Table 9-1). -/
theorem exists_flag_of_number {n : Nat} (low : 1 ≤ n) (high : n ≤ 12) : ∃ f : Flag, f.number = n := by
  interval_cases n
  exacts [⟨.lockdown, rfl⟩, ⟨.overflow, rfl⟩, ⟨.violation, rfl⟩, ⟨.linkError, rfl⟩, ⟨.stallTimeout, rfl⟩,
    ⟨.traceLoss, rfl⟩, ⟨.seqAlert, rfl⟩, ⟨.seqDone, rfl⟩, ⟨.traceHalf, rfl⟩, ⟨.commitDone, rfl⟩,
    ⟨.lockBroken, rfl⟩, ⟨.downstreamError, rfl⟩]

/-- A flag set is not clear where one of its sixteen bits is set. -/
theorem ne_zero_iff (set : FlagSet) : set ≠ 0#16 ↔ ∃ n : Fin 16, set.getLsbD n = true := by
  simp [BitVec.eq_of_getLsbD_eq_iff, Fin.exists_iff, -BitVec.getLsbD_eq_getElem, and_comm]

/-- A set without a bit of a mask holds none of the mask's numbers. -/
theorem getLsbD_of_and_eq_zero {set mask : FlagSet} {n : Nat} (disjoint : set &&& mask = 0#16)
    (masked : mask.getLsbD n = true) : set.getLsbD n = false := by
  have bit : (set &&& mask).getLsbD n = false := by rw [disjoint, BitVec.getLsbD_zero]
  rwa [BitVec.getLsbD_and, masked, Bool.and_true] at bit

/-- The bits of a set that stand for no flag (Table 11-6). -/
theorem getLsbD_outside : ∀ n : Fin 16, (0xE001#16).getLsbD n = true ↔ n.val = 0 ∨ 12 < n.val := by
  decide

/-- The bits of a set that stand for a flag (Table 11-6). -/
theorem getLsbD_inside (n : Nat) : (0x1FFE#16).getLsbD n = true ↔ 1 ≤ n ∧ n ≤ 12 := by
  have inWidth : ∀ n < 16, (0x1FFE#16).getLsbD n = true ↔ 1 ≤ n ∧ n ≤ 12 := by decide
  by_cases small : n < 16
  · exact inWidth n small
  · rw [BitVec.getLsbD_of_ge _ n (Nat.le_of_not_lt small)]
    simp only [Bool.false_eq_true, false_iff]
    omega

/-- The model's test of a set for numbers outside 1 to 12, as the statements say it (Table 11-6). -/
theorem namesNoFlag_iff (set : FlagSet) :
    namesNoFlag set = true ↔ ∃ n : Fin 16, (n.val = 0 ∨ 12 < n.val) ∧ set.getLsbD n = true := by
  simp only [namesNoFlag, bne_iff_ne, ne_zero_iff, BitVec.getLsbD_and, Bool.and_eq_true, getLsbD_outside,
    and_comm]

/-! ## The flags as observed (R150, R151) -/

/-- The condition of a level flag; an event flag has none (R151). -/
def levelCondition (s : State) : Flag → Bool
  | .lockdown => s.guardUnit.lockdown
  | .linkError => s.link.state = .fault
  | _ => false

/-- A flag's bit where a condition holds: no other flag's, and clear without the condition. -/
theorem mask_if_getLsbD (c : Prop) [Decidable c] (f g : Flag) :
    (if c then f.mask else 0#16).getLsbD g.number = (decide c && decide (g = f)) := by
  by_cases holds : c
  · rw [if_pos holds, decide_eq_true holds, Bool.true_and, Bool.eq_iff_iff, Flag.mask_getLsbD, decide_eq_true_iff]
  · simp [holds]

/-- A bit of the level flags is the condition of the flag it stands for. -/
theorem levels_getLsbD (s : State) (f : Flag) : s.levels.getLsbD f.number = levelCondition s f := by
  rw [State.levels, BitVec.getLsbD_or, mask_if_getLsbD, mask_if_getLsbD]
  cases f <;> simp [levelCondition]

/-- A flag is set where the unit holds its event or its condition holds. -/
theorem flagSet_eq (s : State) (f : Flag) :
    s.flagSet f = (s.flags.events.getLsbD f.number || levelCondition s f) := by
  rw [State.flagSet, State.flagWord, BitVec.getLsbD_or, levels_getLsbD]

/-- The unit holds no event of a level flag (R151). -/
theorem level_events {u : FlagUnit} (law : FlagLaw u) :
    u.events.getLsbD Flag.lockdown.number = false ∧ u.events.getLsbD Flag.linkError.number = false :=
  let ⟨eventsClear, _⟩ := law
  ⟨getLsbD_of_and_eq_zero eventsClear rfl, getLsbD_of_and_eq_zero eventsClear rfl⟩

/-- The level flags are their conditions (R151). -/
theorem flagSet_level {s : State} (law : FlagLaw s.flags) :
    s.flagSet .lockdown = s.guardUnit.lockdown ∧ (s.flagSet .linkError = true ↔ s.link.state = .fault) := by
  obtain ⟨lockdownClear, linkErrorClear⟩ := level_events law
  simp [flagSet_eq, lockdownClear, linkErrorClear, levelCondition]

/-! ## CLEAR_FLAGS and SET_ALERT_ENABLE (R154, R156) -/

/-- The state with the events of a set cleared. -/
def withoutEvents (s : State) (set : FlagSet) : State :=
  { s with flags := { s.flags with events := s.flags.events &&& ~~~set } }

/-- The state with the enable mask replaced. -/
def withEnables (s : State) (set : FlagSet) : State :=
  { s with flags := { s.flags with enables := set } }

/-- The unit keeps the events that the set cleared does not name. -/
theorem withoutEvents_getLsbD (s : State) (set : FlagSet) (f : Flag) :
    (withoutEvents s set).flags.events.getLsbD f.number =
      (s.flags.events.getLsbD f.number && !set.getLsbD f.number) := by
  simp only [withoutEvents, BitVec.getLsbD_and, BitVec.getLsbD_not, number_lt, decide_true, Bool.true_and]

/-- Clearing events leaves a level flag to its condition and clears the event flags named (R154). -/
theorem withoutEvents_flagSet {s : State} (law : FlagLaw s.flags) (set : FlagSet) (f : Flag) :
    (withoutEvents s set).flagSet f =
      match f with
      | .lockdown => s.guardUnit.lockdown
      | .linkError => s.link.state = .fault
      | f => s.flagSet f && !set.getLsbD f.number := by
  obtain ⟨lockdownClear, linkErrorClear⟩ := level_events law
  rw [flagSet_eq, withoutEvents_getLsbD]
  cases f with
  | lockdown => rw [lockdownClear]; rfl
  | linkError => rw [linkErrorClear]; rfl
  | _ => simp only [flagSet_eq, levelCondition, Bool.or_false]

/-- CLEAR_FLAGS and SET_ALERT_ENABLE refuse a set with a number outside 1 to 12. -/
theorem namesNoFlag_refused {set : FlagSet} (bad : namesNoFlag set = true) (tag : Tag) (s : State) :
    exec (.clearFlags tag set) s = .next (s.responded 5 .refused tag 0x82#8 [0x0D#8]) ∧
      exec (.setAlertEnable tag set) s = .next (s.responded 5 .refused tag 0x83#8 [0x0D#8]) := by
  simp only [exec, execClearFlags, execSetAlertEnable, bad, if_true, State.refuse_eq_responded]
  exact ⟨rfl, rfl⟩

/-- CLEAR_FLAGS of numbers from 1 to 12 is answered with the flags and the cause code that stand after it. -/
theorem clearFlags_ok {set : FlagSet} (good : namesNoFlag set = false) (tag : Tag) (s : State) :
    exec (.clearFlags tag set) s =
      .next ((withoutEvents s set).responded 5 .ok tag 0x82#8 (withoutEvents s set).clearResult) := by
  simp only [exec, execClearFlags, good]
  rfl

/-- SET_ALERT_ENABLE of numbers from 1 to 12 is answered with the mask and the cause code that stand after it. -/
theorem setAlertEnable_ok {set : FlagSet} (good : namesNoFlag set = false) (tag : Tag) (s : State) :
    exec (.setAlertEnable tag set) s =
      .next ((withEnables s set).responded 5 .ok tag 0x83#8 (withEnables s set).enableResult) := by
  simp only [exec, execSetAlertEnable, good]
  rfl

/-- Settles O53: the two branches of each command, and the flags once events are cleared. -/
theorem flagsAreClearedAndEnabled : Obligations.FlagsAreClearedAndEnabled := by
  intro tag set s
  refine ⟨fun outside => ?_, fun inside => ?_, fun law => withoutEvents_flagSet law set⟩
  · exact namesNoFlag_refused ((namesNoFlag_iff set).mpr outside) tag s
  · have good : namesNoFlag set = false := Bool.eq_false_iff.mpr fun bad => inside ((namesNoFlag_iff set).mp bad)
    exact ⟨clearFlags_ok good tag s, setAlertEnable_ok good tag s⟩

/-! ## The set, enabled flag with the lowest number (R157, R158) -/

/-- A flag counts for ALERT and the cause code: it is set and enabled. -/
def Counts (s : State) (f : Flag) : Prop :=
  s.flagSet f = true ∧ s.flags.enables.getLsbD f.number = true

/-- The bits alerting are the numbers of the flags that count. -/
theorem alerting_getLsbD_iff (s : State) (n : Nat) :
    s.alerting.getLsbD n = true ↔ ∃ f : Flag, f.number = n ∧ Counts s f := by
  simp only [State.alerting, BitVec.getLsbD_and, Bool.and_eq_true, getLsbD_inside]
  constructor
  · rintro ⟨⟨set, enabled⟩, low, high⟩
    obtain ⟨f, rfl⟩ := exists_flag_of_number low high
    exact ⟨f, rfl, set, enabled⟩
  · rintro ⟨f, rfl, set, enabled⟩
    exact ⟨⟨set, enabled⟩, number_bounds f⟩

/-- ALERT is asserted while a flag counts (R157). -/
theorem alert_iff (s : State) : s.alert = true ↔ ∃ f, Counts s f := by
  rw [State.alert, bne_iff_ne, ne_zero_iff]
  simp only [alerting_getLsbD_iff]
  constructor
  · rintro ⟨n, f, -, counts⟩
    exact ⟨f, counts⟩
  · rintro ⟨f, counts⟩
    exact ⟨⟨f.number, number_lt f⟩, f, rfl, counts⟩

/-- The search finds the lowest number whose bit is set, or answers 0 where no number searched has one. -/
theorem lowestFlag_spec (set : FlagSet) (n fuel : Nat) :
    (lowestFlag set n fuel = 0 ∧ ∀ m, n ≤ m → m < n + fuel → set.getLsbD m = false) ∨
    (n ≤ lowestFlag set n fuel ∧ set.getLsbD (lowestFlag set n fuel) = true ∧
      ∀ m, n ≤ m → set.getLsbD m = true → lowestFlag set n fuel ≤ m) := by
  induction fuel generalizing n with
  | zero => exact .inl ⟨rfl, fun m low high => by omega⟩
  | succ fuel ih =>
    rw [lowestFlag]
    cases bit : set.getLsbD n with
    | true => exact .inr ⟨le_rfl, bit, fun m low _ => low⟩
    | false =>
      rw [if_neg (by decide)]
      obtain ⟨zero, clear⟩ | ⟨low, found, least⟩ := ih (n + 1)
      · refine .inl ⟨zero, fun m low high => ?_⟩
        obtain rfl | above := low.eq_or_lt
        · exact bit
        · exact clear m above (by omega)
      · refine .inr ⟨by omega, found, fun m low held => least m (low.lt_of_ne ?_) held⟩
        rintro rfl
        exact absurd held (by simp [bit])

/-- The cause code is 0 where no flag counts, and else the number of the lowest flag that does (R158). -/
theorem causeCode_spec (s : State) :
    (s.causeCode = 0 ∧ ∀ f, ¬Counts s f) ∨
    (∃ f, s.causeCode = f.number ∧ Counts s f ∧ ∀ g, Counts s g → f.number ≤ g.number) := by
  obtain ⟨zero, clear⟩ | ⟨_, found, least⟩ := lowestFlag_spec s.alerting 1 12
  · refine .inl ⟨zero, fun f counts => ?_⟩
    obtain ⟨low, high⟩ := number_bounds f
    exact absurd ((alerting_getLsbD_iff s _).mpr ⟨f, rfl, counts⟩) (by simp [clear f.number low (by omega)])
  · obtain ⟨f, at_f, counts⟩ := (alerting_getLsbD_iff s _).mp found
    refine .inr ⟨f, at_f.symm, counts, fun g alsoCounts => at_f ▸ ?_⟩
    exact least g.number (number_bounds g).1 ((alerting_getLsbD_iff s _).mpr ⟨g, rfl, alsoCounts⟩)

/-- The cause code tells whether a flag counts, its number being at least 1 (R158). -/
theorem causeCode_ne_zero_iff (s : State) : s.causeCode ≠ 0 ↔ ∃ f, Counts s f := by
  obtain ⟨zero, clear⟩ | ⟨f, code, counts, _⟩ := causeCode_spec s
  · simp [zero, clear]
  · have positive : f.number ≠ 0 := Nat.ne_of_gt (number_bounds f).1
    exact ⟨fun _ => ⟨f, counts⟩, fun _ => code ▸ positive⟩

/-- The cause code is the number of the lowest flag that counts (R158). -/
theorem causeCode_eq {s : State} {f : Flag} (counts : Counts s f) (lowest : ∀ g, Counts s g → f.number ≤ g.number) :
    s.causeCode = f.number := by
  obtain ⟨_, clear⟩ | ⟨g, code, alsoCounts, least⟩ := causeCode_spec s
  · exact absurd counts (clear f)
  · exact code.trans (Nat.le_antisymm (least f counts) (lowest g alsoCounts))

/-- Settles O54: ALERT and the cause code both follow from which flags count. -/
theorem alertAndCauseFollowTheFlags : Obligations.AlertAndCauseFollowTheFlags := fun s =>
  ⟨alert_iff s, (causeCode_ne_zero_iff s).trans (alert_iff s).symm, fun _ => causeCode_eq,
    fun clear => not_not.mp fun nonzero => not_exists.mpr clear ((causeCode_ne_zero_iff s).mp nonzero),
    flagSet_level⟩

end Sys2Proof.Proofs.EventFlags
